-- ==== Sys2Proof/Word.lean ====
section
/-! DEFINITION. The one machine word of the part that is a word of bits: the byte its links carry. -/

namespace Sys2Proof

/-- A byte as it travels on a link (R169, R170). -/
abbrev Byte := BitVec 8

end Sys2Proof
end

