-- ==== Sys2Proof/Config.lean ====
section
/-! DEFINITION. What the manual leaves open: the free values of the model. -/

namespace Sys2Proof

/-- A byte of a reply whose value the manual does not state: the fields of a STATUS body that its own
flags mark as absent (R177). It has no body, so nothing can be proved about which value it is.
It is applied to the counter `State.freeUsed`. DESIGN CHOICE, log entry 1. -/
opaque Config.freeByte : Nat → Byte

end Sys2Proof
end

