-- ==== Sys2Proof/Syntax.lean ====
section
/-! DEFINITION. The commands of the part: one constructor of `Instr` for each row of
spec/opcode_table.json, with the operands its rule gives it. -/

namespace Sys2Proof

/-- The two lanes, one for each bridge (00_scope 1.2). A lane names its head port as well. -/
inductive Lane where
  | A
  | B
deriving DecidableEq, Repr

/-- The three master ports (00_scope 2.1). -/
inductive Port where
  | A
  | B
  | C
deriving DecidableEq, Repr

/-- The four serial links (R169). -/
inductive Link where
  | A
  | B
  | C
  | pump
deriving DecidableEq, Repr

/-- The level of a flow sensor input (R152). -/
inductive Level where
  | low
  | high
deriving DecidableEq, Repr

/-- The fields a LINE and an ARC share (R45, R176). -/
structure Cut where
  length : Nat
  entryDir : Nat
  exitDir : Nat
  quality : Nat
  endJetOff : Bool
  closing : Bool
deriving DecidableEq, Repr

/-- A segment as it is posted (R45). -/
inductive Segment where
  | traverse (length : Nat)
  | pierce (dwell : Option Nat)
  | line (cut : Cut)
  | arc (cut : Cut) (radius : Nat)
deriving DecidableEq, Repr

/-- What a POST carries behind its seg_id: a segment of a known kind, or a segment kind code that the
manual does not define (R172 passes it, R46 refuses it). -/
inductive PostBody where
  | known (seg : Segment)
  | unknownKind (code : Nat)
deriving DecidableEq, Repr

/-- Who sends an ABORT (R85): a head port, or the cell port with its lane field. -/
inductive AbortSource where
  | head (lane : Lane)
  | cell (laneField : Nat)
deriving DecidableEq, Repr

/-- The values a TABLE_WRITE of a recipe carries, as written (R188). -/
structure RecipeImage where
  valid : Nat
  sb : Nat
  pCut : Nat
  pPierce : Nat
  pierceDwell : Nat
  kerfDwell : Nat
  lCut : Nat
  lPierce : Nat
  abrasiveLead : Nat
  purge : Nat
  feedFloor : Nat
  closingFactor : Nat
  rippleDerate : Nat
deriving DecidableEq, Repr

/-- The values a TABLE_WRITE of a selection list element carries, as written (R188). -/
structure ElementImage where
  enabled : Nat
  type : Nat
  code1 : Nat
  code2 : Nat
  tmin : Nat
  tmax : Nat
  action : Nat
  recipe : Nat
deriving DecidableEq, Repr

/-- The values a TABLE_WRITE of the selection list control carries, as written (R188). -/
structure ControlImage where
  listLength : Nat
  policy : Nat
  defaultRecipe : Nat
deriving DecidableEq, Repr

/-- A region of the segment store: the slots start .. start + size - 1 (R40). -/
structure Region where
  start : Nat
  size : Nat
deriving DecidableEq, Repr

/-- The values a TABLE_WRITE of the partition carries, as written (R188). -/
structure PartitionImage where
  queueA : Region
  queueB : Region
  fifoA : Region
  fifoB : Region
  watermarkA : Nat
  watermarkB : Nat
  modeA : Nat
  modeB : Nat
deriving DecidableEq, Repr

/-- The twenty values a TABLE_WRITE of the timing parameters carries, as written, in the order of R187. -/
structure TimingImage where
  stallLimit : Nat
  lockTimeout : Nat
  pierceWaitLimit : Nat
  standbyPressure : Nat
  rampStep : Nat
  lossLimit : Nat
  band : Nat
  settle : Nat
  assertThreshold : Nat
  deassertThreshold : Nat
  overrideStep : Nat
  starvationLimit : Nat
  slotTime : Nat
  filterTime : Nat
  edgePolarity : Nat
  windowLength : Nat
  minimumEdgeCount : Nat
  graceTime : Nat
  assertCount : Nat
  clearCount : Nat
deriving DecidableEq, Repr

/-- The item a factor table request names: one of the six tables (R188, codes 0..5), or an item code
above 10, which no item has (R189 passes its LEN and refuses the request BAD_FIELD; log entry 9). -/
inductive FactorItem where
  | kp
  | ka
  | dq
  | qualityMap
  | kc
  | kr
  | undefined (code : Nat)
deriving DecidableEq, Repr

/-- The item a read of the selection list names: an element or the control (R11, R188). -/
inductive SelectionItem where
  | element
  | control
deriving DecidableEq, Repr

/-- The commands of the part, one for each row of spec/opcode_table.json. The requests (`jobOpen` to
`reset` and `frameRefused`) are the events in which the owner takes a request from its port (R172);
the others are frames, bytes, input changes, timer expiries and the part's own steps. -/
inductive Instr where
  | jobOpen (lane : Lane) (material thickness : Nat)
  | jobClose (lane : Lane)
  | post (lane : Lane) (segId : Nat) (body : PostBody)
  | next (lane : Lane)
  | releaseAttempt (lane : Lane)
  | pierceGrant
  | done (lane : Lane) (segId : Nat)
  | resume (lane : Lane)
  | abort (source : AbortSource)
  | complRead (lane : Lane) (n : Nat)
  | status (port : Port)
  | clear (port : Port) (events : BitVec 32)
  | mask (port : Port) (events : BitVec 32)
  | route (events : BitVec 16)
  | counterRead (port : Port) (group flag : Nat)
  | counterReadClear (port : Port) (group : Nat)
  | tableWriteRecipe (index : Nat) (image : RecipeImage)
  | tableWriteElement (index : Nat) (image : ElementImage)
  | tableWriteControl (index : Nat) (image : ControlImage)
  | tableWriteFactorTable (item : FactorItem) (index : Nat) (values : List Nat)
  | tableWritePartition (index : Nat) (image : PartitionImage)
  | tableWriteTiming (index : Nat) (image : TimingImage)
  | tableReadRecipe (index : Nat)
  | tableReadSelection (item : SelectionItem) (index : Nat)
  | tableReadFactorTable (item : FactorItem) (index : Nat)
  | tableReadPartition (index : Nat)
  | tableReadTiming (index : Nat)
  | modeMirrorOn (mode : Nat)
  | modeMirrorOff
  | reset
  | frameRefused (port : Port) (kind : Byte) (payload : List Byte)
  | frameCrcDiscard (link : Link)
  | gapTimerExpiry (link : Link)
  | feedback (pressure status : Nat)
  | lossTimerExpiry
  | settleTimerExpiry
  | rippleWindowComplete (pressure : Nat)
  | timebaseTick
  | timestampWrap
  | governorEvaluation
  | starvationTimerExpiry (lane : Lane)
  | lockTimeoutExpiry (lane : Lane)
  | abrasiveLeadExpiry (lane : Lane)
  | dwellExpiry (lane : Lane)
  | stallExpiry (lane : Lane)
  | purgeExpiry (lane : Lane)
  | pierceWaitTimerExpiry (lane : Lane)
  | slotTimerExpiry (lane : Lane)
  | flowInputChange (lane : Lane) (level : Level)
  | flowFilterExpiry (lane : Lane)
  | windowTimerExpiry (lane : Lane)
  | graceTimerExpiry (lane : Lane)
  | inhibitAssert
  | inhibitRelease
  | resetInputAssert
  | powerOn
  | linkByteReceived (link : Link) (byte : Byte)
  | frameSent (link : Link)
deriving DecidableEq, Repr

end Sys2Proof
end

