-- ==== Sys2Proof/Machine/Wire.lean ====
section
/-! DEFINITION. Bytes, frames and CRC (R170), the kind and item codes (R174, R188), and the field layouts of
the written items (R188). Nothing here depends on the state of the part. -/

namespace Sys2Proof.Machine

/-- The value of a run of bytes sent high byte first (R170). -/
def beNat (bytes : List Byte) : Nat :=
  bytes.foldl (fun acc b => acc * 256 + b.toNat) 0

/-- `v` as `w` bytes, high byte first (R170). -/
def beBytes : Nat → Nat → List Byte
  | 0, _ => []
  | w + 1, v => BitVec.ofNat 8 (v / 256 ^ w) :: beBytes w v

/-- One byte of a payload. -/
def byte (v : Nat) : Byte := BitVec.ofNat 8 v

/-- A flag as R188 and R177 send it: 0 for clear, 1 for set. -/
def flagNat (b : Bool) : Nat := if b then 1 else 0

/-- The bits of a flags byte, bit 0 first (R177). -/
def flagBits : List Bool → Nat
  | [] => 0
  | b :: bs => flagNat b + 2 * flagBits bs

/-- One shift of the CRC register (R170 step 3). -/
def crcShift (reg : BitVec 16) : BitVec 16 :=
  if reg.msb then (reg <<< 1) ^^^ 0x1021#16 else reg <<< 1

/-- `n` shifts of the CRC register. -/
def crcShifts : Nat → BitVec 16 → BitVec 16
  | 0, reg => reg
  | n + 1, reg => crcShifts n (crcShift reg)

/-- One covered byte goes into the CRC register (R170 steps 2 and 3). -/
def crcByte (reg : BitVec 16) (b : Byte) : BitVec 16 :=
  crcShifts 8 (reg ^^^ (b.zeroExtend 16 <<< 8))

/-- The CRC of the covered bytes (R170): the register starts at 0xFFFF, with no final XOR. -/
def crc16 (bytes : List Byte) : BitVec 16 :=
  bytes.foldl crcByte 0xFFFF#16

/-- The SYNC byte (R170). -/
def syncByte : Byte := 0xA5#8

/-- The longest payload a frame may carry (R170). -/
def maxPayload : Nat := 48

/-- The bytes of a frame's CRC field over its KIND, LEN and PAYLOAD (R170). -/
def crcField (kind : Byte) (payload : List Byte) : List Byte :=
  beBytes 2 (crc16 (kind :: byte payload.length :: payload)).toNat

/-- A whole frame as it goes out on a link (R170). -/
def wire (kind : Byte) (payload : List Byte) : List Byte :=
  syncByte :: kind :: byte payload.length :: payload ++ crcField kind payload

/-- The kind codes (R174). -/
def kindJobOpen : Nat := 0x01
def kindJobClose : Nat := 0x02
def kindPost : Nat := 0x03
def kindNext : Nat := 0x04
def kindDone : Nat := 0x05
def kindAbort : Nat := 0x06
def kindResume : Nat := 0x07
def kindComplRead : Nat := 0x08
def kindStatus : Nat := 0x10
def kindClear : Nat := 0x11
def kindMask : Nat := 0x12
def kindCounterRead : Nat := 0x13
def kindTableWrite : Nat := 0x20
def kindTableRead : Nat := 0x21
def kindMode : Nat := 0x22
def kindRoute : Nat := 0x23
def kindReset : Nat := 0x24
def kindRelease : Nat := 0x40
def kindPierceDone : Nat := 0x41
def kindOverride : Nat := 0x42
def kindReply : Nat := 0x80
def kindSetpoint : Nat := 0x60
def kindFeedback : Nat := 0x61

/-- The request kinds a port takes (R174). -/
def takesKind : Port → Nat → Bool
  | .C, k => k ∈ [kindAbort, kindStatus, kindClear, kindMask, kindCounterRead, kindTableWrite, kindTableRead,
      kindMode, kindRoute, kindReset]
  | _, k => k ∈ [kindJobOpen, kindJobClose, kindPost, kindNext, kindDone, kindAbort, kindResume, kindComplRead,
      kindStatus, kindClear, kindMask, kindCounterRead]

/-- The result codes of a reply (R173). -/
inductive Result where
  | ok
  | badKind
  | badLength
  | badField
  | noJob
  | jobActive
  | noRecipe
  | queueFull
  | outOfSequence
  | jetState
  | belowFloor
  | busy
  | alreadyPending
  | nothingReleased
  | wrongSegment
  | faulted
  | notFaulted
  | causePresent
  | queueNotEmpty
  | mirrored
  | inUse
  | tableOrder
  | overlap
deriving DecidableEq, Repr

/-- The code of a result in byte 1 of a reply (R173). -/
def resultCode : Result → Nat
  | .ok => 0
  | .badKind => 1
  | .badLength => 2
  | .badField => 3
  | .noJob => 4
  | .jobActive => 5
  | .noRecipe => 6
  | .queueFull => 7
  | .outOfSequence => 8
  | .jetState => 9
  | .belowFloor => 10
  | .busy => 11
  | .alreadyPending => 12
  | .nothingReleased => 13
  | .wrongSegment => 14
  | .faulted => 15
  | .notFaulted => 16
  | .causePresent => 17
  | .queueNotEmpty => 18
  | .mirrored => 19
  | .inUse => 20
  | .tableOrder => 21
  | .overlap => 22

/-- The item codes of a factor table (R188). -/
def factorCode : FactorItem → Nat
  | .kp => 0
  | .ka => 1
  | .dq => 2
  | .qualityMap => 3
  | .kc => 4
  | .kr => 5
  | .undefined c => c

/-- The item codes of the remaining items (R188). -/
def itemRecipe : Nat := 6
def itemElement : Nat := 7
def itemControl : Nat := 8
def itemPartition : Nat := 9
def itemTiming : Nat := 10

/-- The factor item of an item code that is no other item's. -/
def factorItemOf : Nat → FactorItem
  | 0 => .kp
  | 1 => .ka
  | 2 => .dq
  | 3 => .qualityMap
  | 4 => .kc
  | 5 => .kr
  | c => .undefined c

/-- The widths in bytes of the values of each factor table (R188): no values for an undefined item. -/
def factorWidths : FactorItem → List Nat
  | .kp => List.replicate 13 2
  | .ka => List.replicate 16 2
  | .dq => List.replicate 4 2
  | .qualityMap => List.replicate 8 1
  | .kc => List.replicate 10 2
  | .kr => List.replicate 8 2
  | .undefined _ => []

/-- The widths in bytes of a recipe's values (R188). -/
def recipeWidths : List Nat := [1, 2, 2, 2, 2, 2, 1, 1, 2, 2, 2, 2, 2]

/-- The widths in bytes of a selection list element's values (R188). -/
def elementWidths : List Nat := [1, 1, 2, 2, 2, 2, 1, 1]

/-- The widths in bytes of the selection list control's values (R188). -/
def controlWidths : List Nat := [1, 1, 1]

/-- The widths in bytes of the partition's values (R188). -/
def partitionWidths : List Nat := [2, 2, 2, 2, 2, 2, 2, 2, 2, 2, 1, 1]

/-- The widths in bytes of the twenty timing parameters, in table order (R187, R188). -/
def timingWidths : List Nat := [2, 2, 2, 2, 1, 1, 2, 2, 2, 2, 1, 2, 1, 1, 1, 2, 1, 2, 1, 1]

/-- The values of a recipe image in layout order (R188). -/
def recipeValues (m : RecipeImage) : List Nat :=
  [m.valid, m.sb, m.pCut, m.pPierce, m.pierceDwell, m.kerfDwell, m.lCut, m.lPierce, m.abrasiveLead, m.purge,
    m.feedFloor, m.closingFactor, m.rippleDerate]

/-- The values of an element image in layout order (R188). -/
def elementValues (m : ElementImage) : List Nat :=
  [m.enabled, m.type, m.code1, m.code2, m.tmin, m.tmax, m.action, m.recipe]

/-- The values of a control image in layout order (R188). -/
def controlValues (m : ControlImage) : List Nat :=
  [m.listLength, m.policy, m.defaultRecipe]

/-- The values of a partition image in layout order (R188). -/
def partitionValues (m : PartitionImage) : List Nat :=
  [m.queueA.start, m.queueA.size, m.queueB.start, m.queueB.size, m.fifoA.start, m.fifoA.size, m.fifoB.start,
    m.fifoB.size, m.watermarkA, m.watermarkB, m.modeA, m.modeB]

/-- The values of a timing image in the order of R187. -/
def timingValues (m : TimingImage) : List Nat :=
  [m.stallLimit, m.lockTimeout, m.pierceWaitLimit, m.standbyPressure, m.rampStep, m.lossLimit, m.band, m.settle,
    m.assertThreshold, m.deassertThreshold, m.overrideStep, m.starvationLimit, m.slotTime, m.filterTime,
    m.edgePolarity, m.windowLength, m.minimumEdgeCount, m.graceTime, m.assertCount, m.clearCount]

/-- Values laid out one behind another in their widths, high byte first (R188). -/
def joinFields : List Nat → List Nat → List Byte
  | w :: ws, v :: vs => beBytes w v ++ joinFields ws vs
  | _, _ => []

/-- The values that bytes laid out in these widths hold (R188). -/
def splitFields : List Nat → List Byte → List Nat
  | [], _ => []
  | w :: ws, bytes => beNat (bytes.take w) :: splitFields ws (bytes.drop w)

/-- Every value can be carried in its width. -/
def fieldsFit : List Nat → List Nat → Bool
  | [], [] => true
  | w :: ws, v :: vs => decide (v < 256 ^ w) && fieldsFit ws vs
  | _, _ => false

end Sys2Proof.Machine

namespace Sys2Proof

/-- The link of a master port (R169). -/
def Port.link : Port → Link
  | .A => .A
  | .B => .B
  | .C => .C

/-- The head port of a lane (00_scope 2.1). -/
def Lane.port : Lane → Port
  | .A => .A
  | .B => .B

/-- The other lane. -/
def Lane.other : Lane → Lane
  | .A => .B
  | .B => .A

end Sys2Proof
end

