-- ==== Sys2Proof/WellFormed.lean ====
section
/-! DEFINITION. Which commands a link can carry: each operand fits the field that R176, R178 and R188 give it,
and no command is written in the form of another row. -/

namespace Sys2Proof

/-- The value fits `w` bytes. -/
def fits (w v : Nat) : Bool := decide (v < 256 ^ w)

/-- The fields of a LINE or ARC fit their places (R176). -/
def Cut.wellFormed (c : Cut) : Bool :=
  fits 3 c.length && fits 2 c.entryDir && fits 2 c.exitDir && fits 1 c.quality

/-- The fields of a posted segment fit their places (R176). -/
def Segment.wellFormed : Segment → Bool
  | .traverse length => fits 3 length
  | .pierce none => true
  | .pierce (some dwell) => fits 2 dwell
  | .line cut => cut.wellFormed
  | .arc cut radius => cut.wellFormed && fits 2 radius

/-- A POST body is a segment that fits, or a kind code that is no segment's (R175). -/
def PostBody.wellFormed : PostBody → Bool
  | .known seg => seg.wellFormed
  | .unknownKind code => fits 1 code && decide (4 ≤ code)

/-- A factor item is a table, or a code that no item has (R188). -/
def FactorItem.wellFormed : FactorItem → Bool
  | .undefined code => fits 1 code && decide (10 < code)
  | _ => true

/-- An event mask fits the mask field of its port (R176): 2 bytes on a head port, 4 on port C. -/
def maskFits : Port → BitVec 32 → Bool
  | .C, _ => true
  | _, events => decide (events.toNat < 65536)

/-- The command can be carried, in this form, by the frame or line it stands for. -/
def Instr.wellFormed : Instr → Bool
  | .jobOpen _ material thickness => fits 2 material && fits 2 thickness
  | .jobClose _ => true
  | .post _ segId body => fits 2 segId && body.wellFormed
  | .next _ => true
  | .releaseAttempt _ => true
  | .pierceGrant => true
  | .done _ segId => fits 2 segId
  | .resume _ => true
  | .abort (.head _) => true
  | .abort (.cell laneField) => fits 1 laneField
  | .complRead _ n => fits 1 n
  | .status _ => true
  | .clear port events => maskFits port events
  | .mask port events => maskFits port events
  | .route _ => true
  | .counterRead _ group flag => fits 1 group && fits 1 flag && decide (flag ≠ 1)
  | .counterReadClear _ group => fits 1 group
  | .tableWriteRecipe index image => fits 1 index && Machine.fieldsFit Machine.recipeWidths (Machine.recipeValues image)
  | .tableWriteElement index image =>
      fits 1 index && Machine.fieldsFit Machine.elementWidths (Machine.elementValues image)
  | .tableWriteControl index image =>
      fits 1 index && Machine.fieldsFit Machine.controlWidths (Machine.controlValues image)
  | .tableWriteFactorTable item index values =>
      item.wellFormed && fits 1 index && Machine.fieldsFit (Machine.factorWidths item) values
  | .tableWritePartition index image =>
      fits 1 index && Machine.fieldsFit Machine.partitionWidths (Machine.partitionValues image)
  | .tableWriteTiming index image =>
      fits 1 index && Machine.fieldsFit Machine.timingWidths (Machine.timingValues image)
  | .tableReadRecipe index => fits 1 index
  | .tableReadSelection _ index => fits 1 index
  | .tableReadFactorTable item index => item.wellFormed && fits 1 index
  | .tableReadPartition index => fits 1 index
  | .tableReadTiming index => fits 1 index
  | .modeMirrorOn mode => fits 1 mode && decide (mode ≠ 0)
  | .modeMirrorOff => true
  | .reset => true
  | .frameRefused _ _ payload => decide (payload.length ≤ Machine.maxPayload)
  | .frameCrcDiscard _ => true
  | .gapTimerExpiry _ => true
  | .feedback pressure code => fits 2 pressure && fits 1 code
  | .lossTimerExpiry => true
  | .settleTimerExpiry => true
  | .rippleWindowComplete pressure => fits 2 pressure
  | .timebaseTick => true
  | .timestampWrap => true
  | .governorEvaluation => true
  | .starvationTimerExpiry _ => true
  | .lockTimeoutExpiry _ => true
  | .abrasiveLeadExpiry _ => true
  | .dwellExpiry _ => true
  | .stallExpiry _ => true
  | .purgeExpiry _ => true
  | .pierceWaitTimerExpiry _ => true
  | .slotTimerExpiry _ => true
  | .flowInputChange _ _ => true
  | .flowFilterExpiry _ => true
  | .windowTimerExpiry _ => true
  | .graceTimerExpiry _ => true
  | .inhibitAssert => true
  | .inhibitRelease => true
  | .resetInputAssert => true
  | .powerOn => true
  | .linkByteReceived _ _ => true
  | .frameSent _ => true

end Sys2Proof
end

