-- ==== Sys2Proof/Decode.lean ====
section
/-! DEFINITION. From the words and frames the part receives to its commands. The opcode table gives no row any
bits, so no table word spells a command; what spells a request is a frame's KIND and PAYLOAD (R172, R176, R188,
R189). `encodeRequest` is the frame of each request, written from the same layouts. -/

namespace Sys2Proof

/-- The command a word spells by the table's bits: no row of spec/opcode_table.json gives any (log entry 21). -/
def decodeTableWord (_nbits _w : Nat) : Option Instr := none

namespace Machine

/-- The payload lengths a POST of each segment kind may have (R172, R176). -/
def postLengthOk (payload : List Byte) : Bool :=
  match payload with
  | _ :: _ :: kind :: _ =>
    match kind.toNat with
    | 0 => payload.length == 6
    | 1 => payload.length == 3 || payload.length == 5
    | 2 => payload.length == 12
    | 3 => payload.length == 14
    | _ => true
  | _ => false

/-- The LEN a TABLE_WRITE of a defined item code has (R188). -/
def writeLength (item : Nat) : Option Nat :=
  match item with
  | 0 => some 28
  | 1 => some 34
  | 2 => some 10
  | 3 => some 10
  | 4 => some 22
  | 5 => some 18
  | 6 => some 25
  | 7 => some 14
  | 8 => some 5
  | 9 => some 24
  | 10 => some 33
  | _ => none

/-- The LEN check of a TABLE_WRITE by its item code (R189). -/
def writeLengthOk (payload : List Byte) : Bool :=
  match payload with
  | item :: _ :: _ =>
    match writeLength item.toNat with
    | some n => payload.length == n
    | none => true
  | _ => false

/-- LEN is the length of this kind on this port (R172 step 2, R174, R189, R192). -/
def lengthOk (port : Port) (kind : Nat) (payload : List Byte) : Bool :=
  let n := payload.length
  let head := port != .C
  if kind = kindJobOpen then n == 4
  else if kind = kindPost then postLengthOk payload
  else if kind = kindDone then n == 2
  else if kind = kindAbort then n == if head then 0 else 1
  else if kind = kindComplRead then n == 1
  else if kind = kindClear ∨ kind = kindMask then n == if head then 2 else 4
  else if kind = kindCounterRead ∨ kind = kindTableRead ∨ kind = kindRoute then n == 2
  else if kind = kindTableWrite then writeLengthOk payload
  else if kind = kindMode then n == 1
  else n == 0

/-- How a master port judges a good frame (R172): the refusal of the first check that fails, or none. -/
def frameVerdict (port : Port) (kind : Byte) (payload : List Byte) : Option Result :=
  if !takesKind port kind.toNat then some .badKind
  else if !lengthOk port kind.toNat payload then some .badLength
  else none

/-- The body of a POST from its segment kind code and the values behind it (R176). -/
def decodePostBody (kind : Nat) (rest : List Byte) : PostBody :=
  let cut : Cut :=
    { length := beNat (rest.take 3)
      entryDir := beNat ((rest.drop 3).take 2)
      exitDir := beNat ((rest.drop 5).take 2)
      quality := beNat ((rest.drop 7).take 1)
      endJetOff := (beNat ((rest.drop 8).take 1)).testBit 0
      closing := (beNat ((rest.drop 8).take 1)).testBit 1 }
  match kind with
  | 0 => .known (.traverse (beNat rest))
  | 1 => .known (.pierce (if rest.isEmpty then none else some (beNat rest)))
  | 2 => .known (.line cut)
  | 3 => .known (.arc cut (beNat (rest.drop 9)))
  | k => .unknownKind k

/-- A recipe image from its values (R188). -/
def recipeOfValues : List Nat → Option RecipeImage
  | [v, sb, pc, pp, pd, kd, lc, lp, al, pu, ff, cf, rd] => some ⟨v, sb, pc, pp, pd, kd, lc, lp, al, pu, ff, cf, rd⟩
  | _ => none

/-- An element image from its values (R188). -/
def elementOfValues : List Nat → Option ElementImage
  | [e, t, c1, c2, lo, hi, a, r] => some ⟨e, t, c1, c2, lo, hi, a, r⟩
  | _ => none

/-- A control image from its values (R188). -/
def controlOfValues : List Nat → Option ControlImage
  | [n, p, d] => some ⟨n, p, d⟩
  | _ => none

/-- A partition image from its values (R188). -/
def partitionOfValues : List Nat → Option PartitionImage
  | [qa, na, qb, nb, fa, ma, fb, mb, wa, wb, ka, kb] => some ⟨⟨qa, na⟩, ⟨qb, nb⟩, ⟨fa, ma⟩, ⟨fb, mb⟩, wa, wb, ka, kb⟩
  | _ => none

/-- A timing image from its values (R187, R188). -/
def timingOfValues : List Nat → Option TimingImage
  | [a, b, c, d, e, f, g, h, i, j, k, l, m, n, o, p, q, r, s, t] =>
    some ⟨a, b, c, d, e, f, g, h, i, j, k, l, m, n, o, p, q, r, s, t⟩
  | _ => none

/-- The write a TABLE_WRITE payload asks for, its LEN already judged (R188). -/
def decodeTableWrite (item index : Nat) (values : List Byte) : Option Instr :=
  if item = itemRecipe then (recipeOfValues (splitFields recipeWidths values)).map (.tableWriteRecipe index)
  else if item = itemElement then (elementOfValues (splitFields elementWidths values)).map (.tableWriteElement index)
  else if item = itemControl then (controlOfValues (splitFields controlWidths values)).map (.tableWriteControl index)
  else if item = itemPartition then
    (partitionOfValues (splitFields partitionWidths values)).map (.tableWritePartition index)
  else if item = itemTiming then (timingOfValues (splitFields timingWidths values)).map (.tableWriteTiming index)
  else
    let table := factorItemOf item
    some (.tableWriteFactorTable table index (splitFields (factorWidths table) values))

/-- The read a TABLE_READ payload asks for (R188). -/
def decodeTableRead (item index : Nat) : Instr :=
  if item = itemRecipe then .tableReadRecipe index
  else if item = itemElement then .tableReadSelection .element index
  else if item = itemControl then .tableReadSelection .control index
  else if item = itemPartition then .tableReadPartition index
  else if item = itemTiming then .tableReadTiming index
  else .tableReadFactorTable (factorItemOf item) index

/-- The request of a frame on a head port that passed R172. -/
def decodeHead (lane : Lane) (kind : Nat) (payload : List Byte) : Option Instr :=
  if kind = kindJobOpen then some (.jobOpen lane (beNat (payload.take 2)) (beNat (payload.drop 2)))
  else if kind = kindJobClose then some (.jobClose lane)
  else if kind = kindPost then
    match payload with
    | hi :: lo :: code :: rest => some (.post lane (beNat [hi, lo]) (decodePostBody code.toNat rest))
    | _ => none
  else if kind = kindNext then some (.next lane)
  else if kind = kindDone then some (.done lane (beNat payload))
  else if kind = kindAbort then some (.abort (.head lane))
  else if kind = kindResume then some (.resume lane)
  else if kind = kindComplRead then some (.complRead lane (beNat payload))
  else none

/-- The request of a frame on port C that passed R172. -/
def decodeCell (kind : Nat) (payload : List Byte) : Option Instr :=
  if kind = kindAbort then some (.abort (.cell (beNat payload)))
  else if kind = kindTableWrite then
    match payload with
    | item :: index :: values => decodeTableWrite item.toNat index.toNat values
    | _ => none
  else if kind = kindTableRead then
    match payload with
    | [item, index] => some (decodeTableRead item.toNat index.toNat)
    | _ => none
  else if kind = kindMode then
    some (if beNat payload = 0 then .modeMirrorOff else .modeMirrorOn (beNat payload))
  else if kind = kindRoute then some (.route (BitVec.ofNat 16 (beNat payload)))
  else if kind = kindReset then some .reset
  else none

/-- The request of a frame of a kind that all three ports take, and that passed R172. -/
def decodeShared (port : Port) (kind : Nat) (payload : List Byte) : Option Instr :=
  if kind = kindStatus then some (.status port)
  else if kind = kindClear then some (.clear port (BitVec.ofNat 32 (beNat payload)))
  else if kind = kindMask then some (.mask port (BitVec.ofNat 32 (beNat payload)))
  else if kind = kindCounterRead then
    match payload with
    | [group, flag] =>
      some (if flag.toNat = 1 then .counterReadClear port group.toNat else .counterRead port group.toNat flag.toNat)
    | _ => none
  else none

/-- What a master port hands on for a good frame: the request the frame carries, or the refusal of R172. -/
def decodeFrame (port : Port) (kind : Byte) (payload : List Byte) : Instr :=
  let refused := Instr.frameRefused port kind payload
  match frameVerdict port kind payload with
  | some _ => refused
  | none =>
    match decodeShared port kind.toNat payload with
    | some request => request
    | none =>
      match port with
      | .A => (decodeHead .A kind.toNat payload).getD refused
      | .B => (decodeHead .B kind.toNat payload).getD refused
      | .C => (decodeCell kind.toNat payload).getD refused

/-- The kind code and the values behind byte 2 of a POST (R175, R176). -/
def encodePostBody : PostBody → List Byte
  | .known (.traverse length) => byte 0 :: beBytes 3 length
  | .known (.pierce none) => [byte 1]
  | .known (.pierce (some dwell)) => byte 1 :: beBytes 2 dwell
  | .known (.line cut) => byte 2 :: encodeCut cut
  | .known (.arc cut radius) => byte 3 :: encodeCut cut ++ beBytes 2 radius
  | .unknownKind code => [byte code]
where
  /-- The fields a LINE and an ARC share, in the order of R176. -/
  encodeCut (cut : Cut) : List Byte :=
    beBytes 3 cut.length ++ beBytes 2 cut.entryDir ++ beBytes 2 cut.exitDir ++
      [byte cut.quality, byte (flagBits [cut.endJetOff, cut.closing])]

/-- An event mask in the width of its port (R176). -/
def encodeMask : Port → BitVec 32 → List Byte
  | .C, events => beBytes 4 events.toNat
  | _, events => beBytes 2 events.toNat

/-- The frame of a request: its port, its KIND and its PAYLOAD; none for a command that no request frame carries. -/
def encodeRequest : Instr → Option (Port × Nat × List Byte)
  | .jobOpen lane material thickness => some (lane.port, kindJobOpen, beBytes 2 material ++ beBytes 2 thickness)
  | .jobClose lane => some (lane.port, kindJobClose, [])
  | .post lane segId body => some (lane.port, kindPost, beBytes 2 segId ++ encodePostBody body)
  | .next lane => some (lane.port, kindNext, [])
  | .done lane segId => some (lane.port, kindDone, beBytes 2 segId)
  | .resume lane => some (lane.port, kindResume, [])
  | .abort (.head lane) => some (lane.port, kindAbort, [])
  | .abort (.cell laneField) => some (.C, kindAbort, [byte laneField])
  | .complRead lane n => some (lane.port, kindComplRead, [byte n])
  | .status port => some (port, kindStatus, [])
  | .clear port events => some (port, kindClear, encodeMask port events)
  | .mask port events => some (port, kindMask, encodeMask port events)
  | .route events => some (.C, kindRoute, beBytes 2 events.toNat)
  | .counterRead port group flag => some (port, kindCounterRead, [byte group, byte flag])
  | .counterReadClear port group => some (port, kindCounterRead, [byte group, byte 1])
  | .tableWriteRecipe index image =>
    some (.C, kindTableWrite, byte itemRecipe :: byte index :: joinFields recipeWidths (recipeValues image))
  | .tableWriteElement index image =>
    some (.C, kindTableWrite, byte itemElement :: byte index :: joinFields elementWidths (elementValues image))
  | .tableWriteControl index image =>
    some (.C, kindTableWrite, byte itemControl :: byte index :: joinFields controlWidths (controlValues image))
  | .tableWriteFactorTable item index values =>
    some (.C, kindTableWrite, byte (factorCode item) :: byte index :: joinFields (factorWidths item) values)
  | .tableWritePartition index image =>
    some (.C, kindTableWrite, byte itemPartition :: byte index :: joinFields partitionWidths (partitionValues image))
  | .tableWriteTiming index image =>
    some (.C, kindTableWrite, byte itemTiming :: byte index :: joinFields timingWidths (timingValues image))
  | .tableReadRecipe index => some (.C, kindTableRead, [byte itemRecipe, byte index])
  | .tableReadSelection .element index => some (.C, kindTableRead, [byte itemElement, byte index])
  | .tableReadSelection .control index => some (.C, kindTableRead, [byte itemControl, byte index])
  | .tableReadFactorTable item index => some (.C, kindTableRead, [byte (factorCode item), byte index])
  | .tableReadPartition index => some (.C, kindTableRead, [byte itemPartition, byte index])
  | .tableReadTiming index => some (.C, kindTableRead, [byte itemTiming, byte index])
  | .modeMirrorOn mode => some (.C, kindMode, [byte mode])
  | .modeMirrorOff => some (.C, kindMode, [byte 0])
  | .reset => some (.C, kindReset, [])
  | .frameRefused port kind payload => some (port, kind.toNat, payload)
  | .releaseAttempt _ => none
  | .pierceGrant => none
  | .frameCrcDiscard _ => none
  | .gapTimerExpiry _ => none
  | .feedback _ _ => none
  | .lossTimerExpiry => none
  | .settleTimerExpiry => none
  | .rippleWindowComplete _ => none
  | .timebaseTick => none
  | .timestampWrap => none
  | .governorEvaluation => none
  | .starvationTimerExpiry _ => none
  | .lockTimeoutExpiry _ => none
  | .abrasiveLeadExpiry _ => none
  | .dwellExpiry _ => none
  | .stallExpiry _ => none
  | .purgeExpiry _ => none
  | .pierceWaitTimerExpiry _ => none
  | .slotTimerExpiry _ => none
  | .flowInputChange _ _ => none
  | .flowFilterExpiry _ => none
  | .windowTimerExpiry _ => none
  | .graceTimerExpiry _ => none
  | .inhibitAssert => none
  | .inhibitRelease => none
  | .resetInputAssert => none
  | .powerOn => none
  | .linkByteReceived _ _ => none
  | .frameSent _ => none

end Machine

end Sys2Proof
end

