-- ==== Sys2Proof/Machine/Parts.lean ====
section
/-! DEFINITION. The pieces of state the blocks of the part hold (00_scope 3.1), each with its power-on values. -/

namespace Sys2Proof.Machine

/-- A timer: stopped, or running with a remaining count of ticks (R61). A running timer whose count has reached 0
has come to the tick at which it expires; its expiry is an event of its own (log entry 2). -/
abbrev Timer := Option Nat

/-! ## Configuration store -/

/-- The six factor tables of the feed calculator (R21 to R26). -/
structure FactorTables where
  kp : List Nat
  ka : List Nat
  dq : List Nat
  qualityMap : List Nat
  kc : List Nat
  kr : List Nat
deriving DecidableEq, Repr

/-- A stored recipe record (R1). -/
structure Recipe where
  valid : Bool
  sb : Nat
  pCut : Nat
  pPierce : Nat
  pierceDwell : Nat
  kerfDwell : Nat
  lCut : Nat
  lPierce : Nat
  abrasiveLead : Nat
  purge : Nat
  feedFloor : Nat
  closingFactor : Nat
  rippleDerate : Nat
deriving DecidableEq, Repr

/-- How an element compares its codes with the material code (R6, R12). -/
inductive ElementType where
  | exact
  | range
  | mask
deriving DecidableEq, Repr

/-- What a matching element or the non-match policy decides (R6, R7). -/
inductive ElementAction where
  | use (recipe : Nat)
  | reject
deriving DecidableEq, Repr

/-- A stored selection list element (R6). -/
structure Element where
  enabled : Bool
  type : ElementType
  code1 : Nat
  code2 : Nat
  tmin : Nat
  tmax : Nat
  action : ElementAction
deriving DecidableEq, Repr

/-- The non-match policy (R7). -/
inductive Policy where
  | reject
  | use
deriving DecidableEq, Repr

/-- The selection list control (R7). -/
structure Control where
  listLength : Nat
  policy : Policy
  defaultRecipe : Nat
deriving DecidableEq, Repr

/-- The mode of a completion FIFO (R40, R55). -/
inductive FifoMode where
  | keep
  | overwrite
deriving DecidableEq, Repr

/-- The partition of the segment store with its settings (R40). -/
structure Partition where
  queueA : Region
  queueB : Region
  fifoA : Region
  fifoB : Region
  watermarkA : Nat
  watermarkB : Nat
  modeA : FifoMode
  modeB : FifoMode
deriving DecidableEq, Repr

/-- Which accepted flow edges are counted (R153). -/
inductive Polarity where
  | rising
  | falling
  | both
deriving DecidableEq, Repr

/-- The twenty timing parameters (R187). -/
structure Timing where
  stallLimit : Nat
  lockTimeout : Nat
  pierceWaitLimit : Nat
  standbyPressure : Nat
  rampStep : Nat
  lossLimit : Nat
  band : Nat
  settle : Nat
  assertThreshold : Nat
  deassertThreshold : Nat
  overrideStep : Nat
  starvationLimit : Nat
  slotTime : Nat
  filterTime : Nat
  edgePolarity : Polarity
  windowLength : Nat
  minimumEdgeCount : Nat
  graceTime : Nat
  assertCount : Nat
  clearCount : Nat
deriving DecidableEq, Repr

/-- The configuration store's eleven written items (chapter 11). -/
structure ConfigStore where
  tables : FactorTables
  recipes : List Recipe
  elements : List Element
  control : Control
  partition : Partition
  timing : Timing
deriving DecidableEq, Repr

/-- The factor tables at power-on (R21 to R26, R28). -/
def FactorTables.powerOn : FactorTables :=
  { kp := [67, 165, 279, 406, 543, 688, 841, 1000, 1165, 1336, 1513, 1694, 1880]
    ka := [289, 408, 500, 577, 645, 707, 764, 816, 866, 913, 957, 1000, 1041, 1080, 1118, 1155]
    dq := [1000, 1500, 2200, 3000]
    qualityMap := [1, 1, 2, 2, 3, 3, 4, 4]
    kc := [1000, 900, 700, 500, 350, 250, 180, 130, 100, 80]
    kr := [300, 450, 600, 750, 880, 950, 990, 1000] }

/-- A recipe record at power-on (R2). -/
def Recipe.powerOn : Recipe :=
  { valid := false, sb := 10, pCut := 1500, pPierce := 600, pierceDwell := 100, kerfDwell := 0, lCut := 1,
    lPierce := 1, abrasiveLead := 0, purge := 0, feedFloor := 1, closingFactor := 1000, rippleDerate := 1000 }

/-- A selection list element at power-on (R8). -/
def Element.powerOn : Element :=
  { enabled := false, type := .exact, code1 := 0, code2 := 0, tmin := 10, tmax := 1000, action := .reject }

/-- The selection list control at power-on (R8). -/
def Control.powerOn : Control := { listLength := 0, policy := .reject, defaultRecipe := 0 }

/-- The partition at power-on (R41). -/
def Partition.powerOn : Partition :=
  { queueA := ⟨0, 256⟩, queueB := ⟨256, 256⟩, fifoA := ⟨512, 64⟩, fifoB := ⟨576, 64⟩
    watermarkA := 0, watermarkB := 0, modeA := .keep, modeB := .keep }

/-- The timing parameters at power-on (R187). -/
def Timing.powerOn : Timing :=
  { stallLimit := 2000, lockTimeout := 3000, pierceWaitLimit := 10000, standbyPressure := 1000, rampStep := 10,
    lossLimit := 20, band := 150, settle := 200, assertThreshold := 300, deassertThreshold := 150,
    overrideStep := 10, starvationLimit := 1500, slotTime := 4, filterTime := 1, edgePolarity := .rising,
    windowLength := 100, minimumEdgeCount := 4, graceTime := 800, assertCount := 5, clearCount := 3 }

/-- How many recipe records the store holds (R1). -/
def recipeCount : Nat := 32

/-- How many selection list elements the store holds (R6). -/
def elementCount : Nat := 48

/-- The configuration store at power-on and at the reset input (R2, R8, R28, R41, R187). -/
def ConfigStore.powerOn : ConfigStore :=
  { tables := .powerOn
    recipes := List.replicate recipeCount .powerOn
    elements := List.replicate elementCount .powerOn
    control := .powerOn
    partition := .powerOn
    timing := .powerOn }

/-! ## Lane sequencer, lane queue and completion FIFO -/

/-- The phases of a pierce (R60). -/
inductive Phase where
  | ramp
  | opened
  | dwell
deriving DecidableEq, Repr

/-- The states of a lane (R60). -/
inductive LaneState where
  | closed
  | ready
  | piercing (phase : Phase)
  | cutting
  | openIdle
  | stopping
  | traversing
  | fault
  | mirrored
deriving DecidableEq, Repr

/-- Why a pending NEXT is not yet released (R61). -/
inductive WaitReason where
  | none
  | empty
  | lookahead
  | pierceQueue
  | stopping
deriving DecidableEq, Repr

/-- The kind of a pierce (R61, R92). -/
inductive PierceKind where
  | full
  | kerf
deriving DecidableEq, Repr

/-- Why a lane is in FAULT (R61, R80). -/
inductive FaultCause where
  | abrasiveLoss
  | pumpLoss
  | inhibit
  | stall
  | starved
  | lockTimeout
deriving DecidableEq, Repr

/-- What was released when a lane last entered FAULT (R61, R81). -/
inductive FaultedKind where
  | pierce
  | line
  | arc
  | repierce (kind : PierceKind)
deriving DecidableEq, Repr

/-- Whether the junction of a queue entry is final (R35, R45). -/
inductive Junction where
  | provisional
  | final
deriving DecidableEq, Repr

/-- An entry of a lane queue (R45). -/
structure Entry where
  segId : Nat
  seg : Segment
  fSeg : Nat
  fJunc : Nat
  junction : Junction
deriving DecidableEq, Repr

/-- What the bridge is executing (R61). -/
inductive Released where
  | none
  | segment (entry : Entry)
  | repierce (segId : Nat) (kind : PierceKind)
deriving DecidableEq, Repr

/-- A lane queue: its entries, head first, and the two ring indices (R45). The fill is the number of entries, and the
slots between the indices hold them in order (log entry 18). -/
structure LaneQueue where
  entries : List Entry
  put : Nat
  get : Nat
deriving DecidableEq, Repr

/-- The kind of a completion record (R53). -/
inductive RecordKind where
  | traverse
  | pierce
  | line
  | arc
  | repierce
  | abort
deriving DecidableEq, Repr

/-- The outcome of a completion record; a FAULTED one carries its fault cause (R53). -/
inductive RecordEnd where
  | done
  | aborted
  | faulted (cause : FaultCause)
deriving DecidableEq, Repr

/-- A completion record (R53). A field that a record of its kind does not have is none. -/
structure Record where
  segId : Nat
  kind : RecordKind
  outcome : RecordEnd
  timestamp : Nat
  elapsed : Nat
  minOverride : Option Nat
  steps : Option Nat
  discarded : Option Nat
deriving DecidableEq, Repr

/-- What a lane sequencer holds (R61, R48, R49, R17). -/
structure Sequencer where
  state : LaneState
  recipe : Option Nat
  nextPending : Bool
  wait : WaitReason
  released : Released
  repierceFlag : Bool
  repierceKind : Option PierceKind
  lastFaulted : Option FaultedKind
  faultCause : Option FaultCause
  lockTimer : Timer
  leadTimer : Timer
  dwellTimer : Timer
  stallTimer : Timer
  purgeTimer : Timer
  stepCount : Nat
  elapsed : Option Nat
  postedJet : Bool
  lastSegId : Option Nat
deriving DecidableEq, Repr

/-- The values a lane sequencer takes at power-on, at the reset input and at the RESET request (R61). -/
def Sequencer.reset : Sequencer :=
  { state := .closed, recipe := none, nextPending := false, wait := .none, released := .none,
    repierceFlag := false, repierceKind := none, lastFaulted := none, faultCause := none, lockTimer := none,
    leadTimer := none, dwellTimer := none, stallTimer := none, purgeTimer := none, stepCount := 0,
    elapsed := none, postedJet := false, lastSegId := none }

/-- An empty lane queue over a region (R45). -/
def LaneQueue.emptied (region : Region) : LaneQueue :=
  { entries := [], put := region.start, get := region.start }

/-! ## Feed governor -/

/-- What a feed governor holds (R132). -/
structure Governor where
  current : Nat
  lastSent : Nat
  starved : Bool
  starvationTimer : Timer
  segmentMin : Option Nat
deriving DecidableEq, Repr

/-- The values a governor takes at every reset (R132). -/
def Governor.reset : Governor :=
  { current := 1000, lastSent := 1000, starved := false, starvationTimer := none, segmentMin := none }

/-! ## Abrasive metering -/

/-- The step generator of a lane (R146). -/
structure Generator where
  running : Bool
  level : Nat
  pendingLevel : Option Nat
  slot : Nat
  slotTimer : Timer
deriving DecidableEq, Repr

/-- The grace timer of a flow monitor (R146, R155). `expiring` is expired at the tick in progress: a window that
ends at that tick is still a grace window (log entry 5). -/
inductive Grace where
  | stopped
  | running (remaining : Nat)
  | expiring
  | expired
deriving DecidableEq, Repr

/-- The flow monitor of a lane (R146). -/
structure FlowMonitor where
  edgeCount : Nat
  windowTimer : Timer
  grace : Grace
  badCount : Nat
  goodCount : Nat
  lastWindow : Option Nat
deriving DecidableEq, Repr

/-- The flow filter of a lane with the level at its input (R146, R152). -/
structure FlowFilter where
  input : Level
  accepted : Level
  timer : Timer
deriving DecidableEq, Repr

/-- The values of a stopped generator (R150). -/
def Generator.stopped : Generator :=
  { running := false, level := 0, pendingLevel := none, slot := 0, slotTimer := none }

/-- The values of a flow monitor after power-on (R146). -/
def FlowMonitor.powerOn : FlowMonitor :=
  { edgeCount := 0, windowTimer := none, grace := .stopped, badCount := 0, goodCount := 0, lastWindow := none }

/-- The flow filter after power-on: the accepted level is the level at the input (R146). -/
def FlowFilter.powerOn (input : Level) : FlowFilter := { input := input, accepted := input, timer := none }

/-! ## Counters -/

/-- The counters of a lane (R191). -/
structure LaneCounters where
  segmentsDone : Nat
  segmentsEndedOther : Nat
  pierces : Nat
  cutLength : Nat
  valveOpenMs : Nat
  abrasiveSteps : Nat
  faults : Nat
  starvationDwells : Nat
  completionsLost : Nat
deriving DecidableEq, Repr

/-- The counters of a port (R191). -/
structure PortCounters where
  framesOk : Nat
  framesCrc : Nat
  framesGap : Nat
  requestsRefused : Nat
deriving DecidableEq, Repr

/-- The pump counters (R191). -/
structure PumpCounters where
  samplesBad : Nat
  lossEvents : Nat
  rippleAlarms : Nat
deriving DecidableEq, Repr

def LaneCounters.zero : LaneCounters := ⟨0, 0, 0, 0, 0, 0, 0, 0, 0⟩
def PortCounters.zero : PortCounters := ⟨0, 0, 0, 0⟩
def PumpCounters.zero : PumpCounters := ⟨0, 0, 0⟩

/-! ## A lane as a whole -/

/-- All that stands once for each lane (00_scope 3.1). -/
structure LaneUnit where
  seq : Sequencer
  queue : LaneQueue
  fifo : List Record
  gov : Governor
  gen : Generator
  mon : FlowMonitor
  filter : FlowFilter
  counters : LaneCounters
deriving DecidableEq, Repr

/-- A lane after power-on, its queue over the region given (R41, R61, R132, R146, R191). -/
def LaneUnit.powerOn (region : Region) (flowInput : Level) : LaneUnit :=
  { seq := .reset, queue := .emptied region, fifo := [], gov := .reset, gen := .stopped, mon := .powerOn,
    filter := .powerOn flowInput, counters := .zero }

/-! ## Link ports and event units -/

/-- The receive state of a link's receiver with the part of the frame it holds (R171). -/
inductive RxState where
  | hunt
  | header (kind : Option Byte)
  | payload (kind : Byte) (len : Nat) (got : List Byte)
  | check (kind : Byte) (got : List Byte) (crcHigh : Option Byte)
deriving DecidableEq, Repr

/-- A link's receiver (R171). -/
structure Receiver where
  state : RxState
  gapTimer : Timer
deriving DecidableEq, Repr

/-- A receiver in HUNT with its gap timer stopped (R171). -/
def Receiver.hunting : Receiver := { state := .hunt, gapTimer := none }

/-- The event unit of a port: its pending set and its enable mask, bit n for the event of bit n (R179, R181). -/
structure EventUnit where
  pending : BitVec 32
  enable : BitVec 32
deriving DecidableEq, Repr

/-- A master port: its receiver, the completed requests not yet handed on (oldest first, R172), its transmit
order (R169), its event unit and its counters. -/
structure PortUnit where
  rx : Receiver
  line : List Instr
  tx : List (List Byte)
  events : EventUnit
  counters : PortCounters
deriving DecidableEq, Repr

/-- The defined event bits of a port (R179). -/
def definedEvents : Port → BitVec 32
  | .C => 0x000FFFFF#32
  | _ => 0x000003FF#32

/-- The event unit of a port after every reset (R184). -/
def EventUnit.reset : Port → EventUnit
  | .C => { pending := 0, enable := 0x0007F7F7#32 }
  | _ => { pending := 0, enable := 0x000003F7#32 }

/-- The route mask after every reset (R184). -/
def routeReset : BitVec 16 := 0x0101#16

/-- A master port after power-on (R169, R171, R184, R191). -/
def PortUnit.powerOn (port : Port) : PortUnit :=
  { rx := .hunting, line := [], tx := [], events := .reset port, counters := .zero }

/-! ## Pressure arbiter -/

/-- An entry of the pierce queue (R92). The pierce-wait timer is none once it has expired. -/
structure PierceEntry where
  lane : Lane
  kind : PierceKind
  pressure : Nat
  waitTimer : Timer
  noticeGiven : Bool
deriving DecidableEq, Repr

/-- The grant holder with the holder's pierce (R92). -/
structure Holder where
  lane : Lane
  kind : PierceKind
  pressure : Nat
deriving DecidableEq, Repr

/-- What the pressure arbiter holds (R92). -/
structure Arbiter where
  queue : List PierceEntry
  holder : Option Holder
  target : Nat
deriving DecidableEq, Repr

/-- The arbiter after every reset (R93). -/
def Arbiter.reset : Arbiter := { queue := [], holder := none, target := 0 }

/-! ## Pump link and pressure monitor -/

/-- Why the pump was declared lost (R115, R121). -/
inductive LossReason where
  | timeout
  | stopped
  | tripped
  | badStatus
deriving DecidableEq, Repr

/-- The status the pump drive reports (R118). -/
inductive PumpStatus where
  | running
  | stopped
  | tripped
  | badStatus
deriving DecidableEq, Repr

/-- What the pump link and the pressure monitor hold (R115). `lastRun` is the run flag of the last SETPOINT sent
(R131); before the first it is clear (DESIGN CHOICE, log entry 11). `streaming` says that a SETPOINT has been sent since
the start (R116, R194). -/
structure Monitor where
  ramped : Nat
  history : List Nat
  filtered : Nat
  lost : Bool
  lossReason : Option LossReason
  lossTimer : Timer
  locked : Bool
  settleTimer : Timer
  window : List Nat
  lastRipple : Option Nat
  alarm : Bool
  lastStatus : Option PumpStatus
  lastRun : Bool
  streaming : Bool
deriving DecidableEq, Repr

/-- The monitor after power-on: the loss timer runs from loss_limit (R115). -/
def Monitor.powerOn (lossLimit : Nat) : Monitor :=
  { ramped := 0, history := [], filtered := 0, lost := false, lossReason := none, lossTimer := some lossLimit,
    locked := false, settleTimer := none, window := [], lastRipple := none, alarm := false, lastStatus := none,
    lastRun := false, streaming := false }

end Sys2Proof.Machine
end

