-- ==== Sys2Proof/Machine/State.lean ====
section
/-! DEFINITION. The state of the part as plain data, what can stop it, and the state after power-on. -/

namespace Sys2Proof.Machine

/-- Why the part could stop with a fault: for no reason. The manual gives every command an effect in every state
of the part, so no meaning raises a fault. (A lane's FAULT state is a next state, R81.) -/
inductive Fault where
deriving DecidableEq, Repr

/-- Why a command could have no meaning. -/
inductive Refusal where
  /-- Raised by `exec`'s arm of a command without a meaning; no arm raises it. Safe: the model stops. -/
  | notModelled (mnemonic : String)
deriving DecidableEq, Repr

/-- The state of the part (00_scope 3.1). -/
structure State where
  /-- The commands that are waiting, first in first out: the model's own. -/
  pending : List Instr
  /-- The configuration store (R1, R6, R7, R21 to R26, R40, R187). -/
  config : ConfigStore
  /-- Mirror mode on (chapter 9). -/
  mirror : Bool
  laneA : LaneUnit
  laneB : LaneUnit
  /-- The pressure arbiter (R92). -/
  arbiter : Arbiter
  /-- The pump link and pressure monitor (R115). -/
  monitor : Monitor
  portA : PortUnit
  portB : PortUnit
  portC : PortUnit
  /-- The route mask of port C (R180). -/
  route : BitVec 16
  /-- The pump link's receiver (R118, R171). -/
  pumpRx : Receiver
  /-- The pump link's transmit order (R169). -/
  pumpTx : List (List Byte)
  /-- The pump counters (R191). -/
  pumpCounters : PumpCounters
  /-- The timestamp (R59). -/
  timestamp : Nat
  /-- The governor period count, 0..9 (R132). -/
  period : Nat
  /-- An evaluation tick has come and its evaluation is not yet made: the model's own (log entry 2). -/
  evaluationDue : Bool
  /-- The last tick is not yet counted in VALVE_OPEN_MS, as an expiry at it that can move a valve is still to be taken: the
  model's own (log entry 16). -/
  valveDue : Bool
  /-- The inhibit level, true for asserted (R185). -/
  inhibit : Bool
  /-- The level at the jet-inhibit input, true for asserted (00_scope 2.3). -/
  inhibitInput : Bool
  /-- The level at the reset input, true for asserted (R194). -/
  resetInput : Bool
  /-- How many bytes of free value have been used: the model's own (log entry 1). -/
  freeUsed : Nat
deriving DecidableEq, Repr

/-- The state in which every block of the part starts (R194): at power-up and at the release of the reset input.
The levels at the inputs, the waiting commands and the model's free-value counter are as given. -/
def State.started (inhibitInput : Bool) (flowA flowB : Level) (pending : List Instr) (freeUsed : Nat) : State :=
  { pending := pending
    config := .powerOn
    mirror := false
    laneA := .powerOn Partition.powerOn.queueA flowA
    laneB := .powerOn Partition.powerOn.queueB flowB
    arbiter := .reset
    monitor := .powerOn Timing.powerOn.lossLimit
    portA := .powerOn .A
    portB := .powerOn .B
    portC := .powerOn .C
    route := routeReset
    pumpRx := .hunting
    pumpTx := []
    pumpCounters := .zero
    timestamp := 0
    period := 0
    evaluationDue := false
    valveDue := false
    inhibit := inhibitInput
    inhibitInput := inhibitInput
    resetInput := false
    freeUsed := freeUsed }

/-- The part right after power-on (R194), with the inhibit input released, both flow inputs low (DESIGN CHOICE, log
entry 3) and no command waiting. -/
def State.reset : State := State.started false .low .low [] 0

end Sys2Proof.Machine
end

