-- ==== Sys2Proof/Machine/Ops.lean ====
section
/-! DEFINITION. The named operations over the state: parts and their updates, timers, saturating counts, the
transmit orders, replies, and the handing on of requests. -/

namespace Sys2Proof.Machine

/-! ## Parts of the state -/

/-- All that stands for one lane. -/
def State.lane (s : State) : Lane → LaneUnit
  | .A => s.laneA
  | .B => s.laneB

/-- Change one lane. -/
def State.modLane (s : State) (L : Lane) (f : LaneUnit → LaneUnit) : State :=
  match L with
  | .A => { s with laneA := f s.laneA }
  | .B => { s with laneB := f s.laneB }

/-- One master port. -/
def State.port (s : State) : Port → PortUnit
  | .A => s.portA
  | .B => s.portB
  | .C => s.portC

/-- Change one master port. -/
def State.modPort (s : State) (p : Port) (f : PortUnit → PortUnit) : State :=
  match p with
  | .A => { s with portA := f s.portA }
  | .B => { s with portB := f s.portB }
  | .C => { s with portC := f s.portC }

/-- Change what a lane sequencer holds. -/
def State.modSeq (s : State) (L : Lane) (f : Sequencer → Sequencer) : State :=
  s.modLane L fun u => { u with seq := f u.seq }

/-- Change a lane queue. -/
def State.modQueue (s : State) (L : Lane) (f : LaneQueue → LaneQueue) : State :=
  s.modLane L fun u => { u with queue := f u.queue }

/-- Change what a feed governor holds. -/
def State.modGov (s : State) (L : Lane) (f : Governor → Governor) : State :=
  s.modLane L fun u => { u with gov := f u.gov }

/-- Change a step generator. -/
def State.modGen (s : State) (L : Lane) (f : Generator → Generator) : State :=
  s.modLane L fun u => { u with gen := f u.gen }

/-- Change a flow monitor. -/
def State.modMon (s : State) (L : Lane) (f : FlowMonitor → FlowMonitor) : State :=
  s.modLane L fun u => { u with mon := f u.mon }

/-- Change a flow filter. -/
def State.modFilter (s : State) (L : Lane) (f : FlowFilter → FlowFilter) : State :=
  s.modLane L fun u => { u with filter := f u.filter }

/-- Change what the arbiter holds. -/
def State.modArbiter (s : State) (f : Arbiter → Arbiter) : State := { s with arbiter := f s.arbiter }

/-- Change what the pump link and pressure monitor hold. -/
def State.modMonitor (s : State) (f : Monitor → Monitor) : State := { s with monitor := f s.monitor }

/-- Change the event unit of a port. -/
def State.modEvents (s : State) (p : Port) (f : EventUnit → EventUnit) : State :=
  s.modPort p fun u => { u with events := f u.events }

/-- The state of a lane (R60). -/
def State.laneState (s : State) (L : Lane) : LaneState := (s.lane L).seq.state

/-- The recipe a lane's open job uses (R17). A lane without a job has none, and nothing then reads it; the record
given in its place is the power-on one (log entry 20). -/
def State.recipe (s : State) (L : Lane) : Recipe :=
  match (s.lane L).seq.recipe with
  | some n => s.config.recipes.getD n .powerOn
  | none => .powerOn

/-- The lane has a job open (R5). -/
def LaneState.jobOpen : LaneState → Bool
  | .closed => false
  | .mirrored => false
  | _ => true

/-- The lane has a job open (R5). -/
def State.jobOpen (s : State) (L : Lane) : Bool := (s.laneState L).jobOpen

/-- Some lane has a job open (R5). -/
def State.anyJobOpen (s : State) : Bool := s.jobOpen .A || s.jobOpen .B

/-- The lane's own valve is open in this state (R60). -/
def LaneState.valveOpen : LaneState → Bool
  | .piercing .opened => true
  | .piercing .dwell => true
  | .cutting => true
  | .openIdle => true
  | .stopping => true
  | _ => false

/-- The cutting-valve output of a lane, true for open (R60): lane B's follows lane A's while mirror
mode is on (R165). -/
def State.valve (s : State) (L : Lane) : Bool :=
  match L with
  | .A => (s.laneState .A).valveOpen
  | .B => if s.mirror then (s.laneState .A).valveOpen else (s.laneState .B).valveOpen

/-! ## Timers and counts -/

/-- A running timer counts one tick (R59). -/
def Timer.tick : Timer → Timer
  | some (n + 1) => some n
  | t => t

/-- The timer has come to the tick at which it expires. -/
def Timer.due (t : Timer) : Bool := t == some 0

/-- The grace timer counts one tick; what expired at the tick before is expired for good (R155). -/
def Grace.tick : Grace → Grace
  | .running (n + 1) => .running n
  | .expiring => .expired
  | g => g

/-- The largest value of a counter (R191). -/
def counterMax : Nat := 4294967295

/-- A counting that saturates (R191). -/
def countUp (amount count : Nat) : Nat := min counterMax (count + amount)

/-- The largest elapsed time and step count (R54, R61). -/
def shortMax : Nat := 65535

/-- Count in the lane counters. -/
def State.countLane (s : State) (L : Lane) (f : LaneCounters → LaneCounters) : State :=
  s.modLane L fun u => { u with counters := f u.counters }

/-- Count in the port counters. -/
def State.countPort (s : State) (p : Port) (f : PortCounters → PortCounters) : State :=
  s.modPort p fun u => { u with counters := f u.counters }

/-- Count in the pump counters. -/
def State.countPump (s : State) (f : PumpCounters → PumpCounters) : State :=
  { s with pumpCounters := f s.pumpCounters }

def LaneCounters.addSegmentsDone (c : LaneCounters) : LaneCounters := { c with segmentsDone := countUp 1 c.segmentsDone }
def LaneCounters.addEndedOther (n : Nat) (c : LaneCounters) : LaneCounters :=
  { c with segmentsEndedOther := countUp n c.segmentsEndedOther }
def LaneCounters.addPierce (c : LaneCounters) : LaneCounters := { c with pierces := countUp 1 c.pierces }
def LaneCounters.addCutLength (n : Nat) (c : LaneCounters) : LaneCounters :=
  { c with cutLength := countUp n c.cutLength }
def LaneCounters.addValveOpenMs (c : LaneCounters) : LaneCounters := { c with valveOpenMs := countUp 1 c.valveOpenMs }
def LaneCounters.addAbrasiveStep (c : LaneCounters) : LaneCounters :=
  { c with abrasiveSteps := countUp 1 c.abrasiveSteps }
def LaneCounters.addFault (c : LaneCounters) : LaneCounters := { c with faults := countUp 1 c.faults }
def LaneCounters.addStarvation (c : LaneCounters) : LaneCounters :=
  { c with starvationDwells := countUp 1 c.starvationDwells }
def LaneCounters.addLost (n : Nat) (c : LaneCounters) : LaneCounters :=
  { c with completionsLost := countUp n c.completionsLost }
def PortCounters.addOk (c : PortCounters) : PortCounters := { c with framesOk := countUp 1 c.framesOk }
def PortCounters.addCrc (c : PortCounters) : PortCounters := { c with framesCrc := countUp 1 c.framesCrc }
def PortCounters.addGap (c : PortCounters) : PortCounters := { c with framesGap := countUp 1 c.framesGap }
def PortCounters.addRefused (c : PortCounters) : PortCounters := { c with requestsRefused := countUp 1 c.requestsRefused }
def PumpCounters.addBad (c : PumpCounters) : PumpCounters := { c with samplesBad := countUp 1 c.samplesBad }
def PumpCounters.addLoss (c : PumpCounters) : PumpCounters := { c with lossEvents := countUp 1 c.lossEvents }
def PumpCounters.addRipple (c : PumpCounters) : PumpCounters := { c with rippleAlarms := countUp 1 c.rippleAlarms }

/-! ## The count of a tick in VALVE_OPEN_MS -/

/-- VALVE_OPEN_MS of a lane counts one where the lane's valve is open (R89, R167). -/
def State.countValve (s : State) (L : Lane) : State := if s.valve L then s.countLane L .addValveOpenMs else s

/-- An expiry of the lane that can move a valve has come due and is not yet taken. -/
def LaneUnit.expiring (u : LaneUnit) : Bool :=
  u.seq.lockTimer.due || (u.seq.leadTimer.due && u.seq.state == .piercing .opened) ||
    (u.seq.dwellTimer.due && u.seq.state == .piercing .dwell) || u.seq.stallTimer.due ||
    (u.seq.purgeTimer.due && u.seq.state == .stopping) || u.gov.starvationTimer.due || u.mon.windowTimer.due

/-- An expiry that can move a valve has come due at the last tick and is not yet taken. -/
def State.expiring (s : State) : Bool :=
  (s.monitor.lossTimer.due && !s.monitor.lost) || s.monitor.settleTimer.due || s.laneA.expiring || s.laneB.expiring

/-- The last tick, if it is not yet counted, is counted for both lanes with the valves as they stand. -/
def State.countTick (s : State) : State :=
  if s.valveDue then { (s.countValve .A).countValve .B with valveDue := false } else s

/-- The end of an event that can take an expiry away or move a valve: the last tick is counted once none of its expiries
that can move a valve is left, so with the valves as the tick leaves them (R89, R167, log entry 16). -/
def State.closeTick (s : State) : State := if s.expiring then s else s.countTick

/-! ## Frames produced for a link -/

/-- The transmit order of a link, the frame going out first (R169). -/
def State.tx (s : State) : Link → List (List Byte)
  | .A => s.portA.tx
  | .B => s.portB.tx
  | .C => s.portC.tx
  | .pump => s.pumpTx

/-- Change the transmit order of a link. -/
def State.modTx (s : State) (l : Link) (f : List (List Byte) → List (List Byte)) : State :=
  match l with
  | .A => s.modPort .A fun u => { u with tx := f u.tx }
  | .B => s.modPort .B fun u => { u with tx := f u.tx }
  | .C => s.modPort .C fun u => { u with tx := f u.tx }
  | .pump => { s with pumpTx := f s.pumpTx }

/-- A frame produced for a link joins the end of its transmit order (R169). -/
def State.send (s : State) (l : Link) (kind : Nat) (payload : List Byte) : State :=
  s.modTx l fun frames => frames ++ [wire (byte kind) payload]

/-- The payload of a REPLY (R173). -/
def replyPayload (kind : Nat) (result : Result) (body : List Byte) : List Byte :=
  byte kind :: byte (resultCode result) :: body

/-- A port answers a request (R173): one REPLY frame, and one in REQUESTS_REFUSED unless the result is OK. -/
def State.reply (s : State) (p : Port) (kind : Nat) (result : Result) (body : List Byte) : State :=
  let answered := s.send p.link kindReply (replyPayload kind result body)
  if result = .ok then answered else answered.countPort p .addRefused

/-- A refusal without a body (R173): the part is left as it was apart from the reply and its count. -/
def State.refuse (s : State) (p : Port) (kind : Nat) (result : Result) : State := s.reply p kind result []

/-! ## When an event is taken -/

/-- While the reset input is asserted the part is held at rest and takes nothing (R194). -/
def State.unlessHeld (s : State) (event : State → State) : State :=
  if s.resetInput then s else event s

/-- The event in which a port hands a request on and its owner takes it (R172). A port hands on its requests one at a
time in the order in which their frames completed: the request at the front of the waiting ones leaves them and is
taken; with none waiting, a request whose frame was not followed byte by byte is taken; behind others it waits
(log entry 4). -/
def State.handOn (s : State) (p : Port) (request : Instr) (take : State → State) : State :=
  s.unlessHeld fun s =>
    match (s.port p).line with
    | [] => take s
    | first :: rest =>
      if first = request then take (s.modPort p fun u => { u with line := rest })
      else if request ∈ rest then s
      else s.modPort p fun u => { u with line := u.line ++ [request] }

end Sys2Proof.Machine
end

