-- ==== Sys2Proof/Machine/Flags.lean ====
section
/-! DEFINITION. The event units: raising events, their copies on port C, and the attention lines
(R179 to R181). -/

namespace Sys2Proof.Machine

/-- The events of a head port (R179). -/
inductive HeadEvent where
  | fault
  | starving
  | abrasiveLoss
  | queueLow
  | completionReady
  | completionLost
  | peerPierceWaiting
  | pierceWaitLong
  | pumpLoss
  | ripple
deriving DecidableEq, Repr

/-- The events that are port C's own (R179). -/
inductive CellEvent where
  | pumpLoss
  | ripple
  | inhibit
  | timeWrap
deriving DecidableEq, Repr

/-- The bit of a head port's event (R179). -/
def headBit : HeadEvent → Nat
  | .fault => 0
  | .starving => 1
  | .abrasiveLoss => 2
  | .queueLow => 3
  | .completionReady => 4
  | .completionLost => 5
  | .peerPierceWaiting => 6
  | .pierceWaitLong => 7
  | .pumpLoss => 8
  | .ripple => 9

/-- The bit of port C's own event (R179). -/
def cellBit : CellEvent → Nat
  | .pumpLoss => 16
  | .ripple => 17
  | .inhibit => 18
  | .timeWrap => 19

/-- The bit of port C that copies bit `n` of a lane's head port (R179). -/
def copyBit : Lane → Nat → Nat
  | .A, n => n
  | .B, n => n + 8

/-- The mask with one bit set. -/
def bitMask (n : Nat) : BitVec 32 := 1#32 <<< n

/-- An event joins the pending set of a port (R179); an event already pending leaves the set as it is. -/
def State.raiseBit (s : State) (p : Port) (n : Nat) : State :=
  s.modEvents p fun u => { u with pending := u.pending ||| bitMask n }

/-- An event is raised on port C. -/
def State.raiseCell (s : State) (e : CellEvent) : State := s.raiseBit .C (cellBit e)

/-- An event is raised on the head port of a lane, with its copy on port C when the route mask selects it (R180). -/
def State.raiseHead (s : State) (L : Lane) (e : HeadEvent) : State :=
  let raised := s.raiseBit L.port (headBit e)
  if headBit e < 8 ∧ s.route.getLsbD (copyBit L (headBit e)) then raised.raiseBit .C (copyBit L (headBit e))
  else raised

/-- An event is pending on a head port. -/
def State.headPending (s : State) (L : Lane) (e : HeadEvent) : Bool :=
  (s.port L.port).events.pending.getLsbD (headBit e)

/-- An event is pending on port C. -/
def State.cellPending (s : State) (e : CellEvent) : Bool := s.portC.events.pending.getLsbD (cellBit e)

/-- The attention output of a port, true for asserted (low): at least one event is both pending and enabled (R181).
It is judged from the event unit as it stands, so it changes in every event that changes the unit. -/
def State.attention (s : State) (p : Port) : Bool :=
  (s.port p).events.pending &&& (s.port p).events.enable != 0

end Sys2Proof.Machine
end

