-- ==== Sys2Proof/Machine/Operands.lean ====
section
/-! DEFINITION. The checks of operands against the ranges of the manual, and the stored form of each written item. -/

namespace Sys2Proof.Machine

/-- A value lies within lo..hi, both included (00_scope 5.2). -/
def within (lo hi v : Nat) : Bool := decide (lo ≤ v) && decide (v ≤ hi)

/-- Every value is at most the next. -/
def nonDecreasing : List Nat → Bool
  | a :: b :: rest => decide (a ≤ b) && nonDecreasing (b :: rest)
  | _ => true

/-- Every value is at least the next. -/
def nonIncreasing : List Nat → Bool
  | a :: b :: rest => decide (b ≤ a) && nonIncreasing (b :: rest)
  | _ => true

/-- A flag of a written item: 0 or 1 (R188, R189). -/
def flagOk (v : Nat) : Bool := within 0 1 v

/-- Each field of a written recipe lies within its range (R1, R3 check 3). -/
def recipeInRange (m : RecipeImage) : Bool :=
  flagOk m.valid && within 10 6000 m.sb && within 1500 6200 m.pCut && within 600 6200 m.pPierce &&
    within 100 30000 m.pierceDwell && within 0 30000 m.kerfDwell && within 1 16 m.lCut && within 1 16 m.lPierce &&
    within 0 500 m.abrasiveLead && within 0 2000 m.purge && within 1 6000 m.feedFloor &&
    within 100 1000 m.closingFactor && within 500 1000 m.rippleDerate

/-- The record a recipe write stores. -/
def recipeOf (m : RecipeImage) : Recipe :=
  { valid := m.valid == 1, sb := m.sb, pCut := m.pCut, pPierce := m.pPierce, pierceDwell := m.pierceDwell,
    kerfDwell := m.kerfDwell, lCut := m.lCut, lPierce := m.lPierce, abrasiveLead := m.abrasiveLead, purge := m.purge,
    feedFloor := m.feedFloor, closingFactor := m.closingFactor, rippleDerate := m.rippleDerate }

/-- The layout of a stored recipe (R188). -/
def recipeImage (r : Recipe) : RecipeImage :=
  { valid := flagNat r.valid, sb := r.sb, pCut := r.pCut, pPierce := r.pPierce, pierceDwell := r.pierceDwell,
    kerfDwell := r.kerfDwell, lCut := r.lCut, lPierce := r.lPierce, abrasiveLead := r.abrasiveLead, purge := r.purge,
    feedFloor := r.feedFloor, closingFactor := r.closingFactor, rippleDerate := r.rippleDerate }

/-- The codes of the element types (R188). -/
def elementTypeCode : ElementType → Nat
  | .exact => 0
  | .range => 1
  | .mask => 2

/-- The element type of a code. -/
def elementTypeOf : Nat → ElementType
  | 0 => .exact
  | 1 => .range
  | _ => .mask

/-- Each field of a written element lies within its range (R6, R9 check 3): an action is REJECT with a recipe byte
of 0, or USE with a recipe number within 0..31. -/
def elementInRange (m : ElementImage) : Bool :=
  flagOk m.enabled && within 0 2 m.type && ((m.action == 0 && m.recipe == 0) || (m.action == 1 && within 0 31 m.recipe)) &&
    within 0 65535 m.code1 && within 0 65535 m.code2 && within 10 1000 m.tmin && within 10 1000 m.tmax

/-- The order conditions of an element (R6, R9 check 4). -/
def elementOrdered (m : ElementImage) : Bool :=
  decide (m.tmin ≤ m.tmax) && (m.type != 1 || decide (m.code1 ≤ m.code2))

/-- The element a write stores. -/
def elementOf (m : ElementImage) : Element :=
  { enabled := m.enabled == 1, type := elementTypeOf m.type, code1 := m.code1, code2 := m.code2, tmin := m.tmin,
    tmax := m.tmax, action := if m.action = 1 then .use m.recipe else .reject }

/-- The layout of a stored element: the recipe byte is 0 under REJECT (R188). -/
def elementImage (e : Element) : ElementImage :=
  { enabled := flagNat e.enabled, type := elementTypeCode e.type, code1 := e.code1, code2 := e.code2, tmin := e.tmin,
    tmax := e.tmax
    action := match e.action with
      | .use _ => 1
      | .reject => 0
    recipe := match e.action with
      | .use n => n
      | .reject => 0 }

/-- Each field of a written control lies within its range (R7, R10 check 2). -/
def controlInRange (m : ControlImage) : Bool :=
  within 0 48 m.listLength && flagOk m.policy && within 0 31 m.defaultRecipe

/-- The control a write stores. -/
def controlOf (m : ControlImage) : Control :=
  { listLength := m.listLength, policy := if m.policy = 1 then .use else .reject, defaultRecipe := m.defaultRecipe }

/-- The layout of the stored control (R188). -/
def controlImage (c : Control) : ControlImage :=
  { listLength := c.listLength
    policy := match c.policy with
      | .reject => 0
      | .use => 1
    defaultRecipe := c.defaultRecipe }

/-- The range of a region (R40, R42 check 2). -/
def regionInRange (lo hi : Nat) (r : Region) : Bool :=
  within 0 639 r.start && within lo hi r.size && decide (r.start + r.size ≤ 640)

/-- Each field of a written partition lies within its range (R42 check 2). -/
def partitionInRange (m : PartitionImage) : Bool :=
  regionInRange 2 256 m.queueA && regionInRange 2 256 m.queueB && regionInRange 1 64 m.fifoA &&
    regionInRange 1 64 m.fifoB && within 0 m.queueA.size m.watermarkA && within 0 m.queueB.size m.watermarkB &&
    flagOk m.modeA && flagOk m.modeB

/-- No slot lies in both regions (R40). -/
def apart (r q : Region) : Bool := decide (r.start + r.size ≤ q.start) || decide (q.start + q.size ≤ r.start)

/-- No slot lies in two of the four regions (R42 check 3). -/
def regionsApart (a b c d : Region) : Bool :=
  apart a b && apart a c && apart a d && apart b c && apart b d && apart c d

/-- The FIFO mode of a code (R188). -/
def fifoModeOf (v : Nat) : FifoMode := if v = 1 then .overwrite else .keep

/-- The code of a FIFO mode (R188). -/
def fifoModeCode : FifoMode → Nat
  | .keep => 0
  | .overwrite => 1

/-- The partition a write stores. -/
def partitionOf (m : PartitionImage) : Partition :=
  { queueA := m.queueA, queueB := m.queueB, fifoA := m.fifoA, fifoB := m.fifoB, watermarkA := m.watermarkA,
    watermarkB := m.watermarkB, modeA := fifoModeOf m.modeA, modeB := fifoModeOf m.modeB }

/-- The layout of the stored partition (R188). -/
def partitionImage (p : Partition) : PartitionImage :=
  { queueA := p.queueA, queueB := p.queueB, fifoA := p.fifoA, fifoB := p.fifoB, watermarkA := p.watermarkA,
    watermarkB := p.watermarkB, modeA := fifoModeCode p.modeA, modeB := fifoModeCode p.modeB }

/-- The edge polarity of a code (R188). -/
def polarityOf : Nat → Polarity
  | 0 => .rising
  | 1 => .falling
  | _ => .both

/-- The code of an edge polarity (R188). -/
def polarityCode : Polarity → Nat
  | .rising => 0
  | .falling => 1
  | .both => 2

/-- Each of the twenty values lies within its range (R187 check 2). -/
def timingInRange (m : TimingImage) : Bool :=
  within 200 30000 m.stallLimit && within 500 20000 m.lockTimeout && within 1000 60000 m.pierceWaitLimit &&
    within 0 2000 m.standbyPressure && within 1 200 m.rampStep && within 5 100 m.lossLimit && within 25 500 m.band &&
    within 10 2000 m.settle && within 1 3000 m.assertThreshold && within 0 3000 m.deassertThreshold &&
    within 1 100 m.overrideStep && within 100 10000 m.starvationLimit && within 1 20 m.slotTime &&
    within 0 10 m.filterTime && within 0 2 m.edgePolarity && within 20 500 m.windowLength &&
    within 1 255 m.minimumEdgeCount && within 0 5000 m.graceTime && within 1 15 m.assertCount && within 1 15 m.clearCount

/-- The timing parameters a write stores. -/
def timingOf (m : TimingImage) : Timing :=
  { stallLimit := m.stallLimit, lockTimeout := m.lockTimeout, pierceWaitLimit := m.pierceWaitLimit,
    standbyPressure := m.standbyPressure, rampStep := m.rampStep, lossLimit := m.lossLimit, band := m.band,
    settle := m.settle, assertThreshold := m.assertThreshold, deassertThreshold := m.deassertThreshold,
    overrideStep := m.overrideStep, starvationLimit := m.starvationLimit, slotTime := m.slotTime,
    filterTime := m.filterTime, edgePolarity := polarityOf m.edgePolarity, windowLength := m.windowLength,
    minimumEdgeCount := m.minimumEdgeCount, graceTime := m.graceTime, assertCount := m.assertCount,
    clearCount := m.clearCount }

/-- The layout of the stored timing parameters (R187, R188). -/
def timingImage (t : Timing) : TimingImage :=
  { stallLimit := t.stallLimit, lockTimeout := t.lockTimeout, pierceWaitLimit := t.pierceWaitLimit,
    standbyPressure := t.standbyPressure, rampStep := t.rampStep, lossLimit := t.lossLimit, band := t.band,
    settle := t.settle, assertThreshold := t.assertThreshold, deassertThreshold := t.deassertThreshold,
    overrideStep := t.overrideStep, starvationLimit := t.starvationLimit, slotTime := t.slotTime,
    filterTime := t.filterTime, edgePolarity := polarityCode t.edgePolarity, windowLength := t.windowLength,
    minimumEdgeCount := t.minimumEdgeCount, graceTime := t.graceTime, assertCount := t.assertCount,
    clearCount := t.clearCount }

/-- The number of values of each factor table (R27). -/
def factorCount (item : FactorItem) : Nat := (factorWidths item).length

/-- Every value lies within the range of its table (R21 to R26, R27 check 1). -/
def factorInRange (item : FactorItem) (values : List Nat) : Bool :=
  match item with
  | .kp => values.all (within 0 3000)
  | .ka => values.all (within 0 2000)
  | .dq => values.all (within 500 10000)
  | .qualityMap => values.all (within 1 4)
  | .kc => values.all (within 0 1000)
  | .kr => values.all (within 1 1000)
  | .undefined _ => false

/-- The values obey the table's order rule (R27 check 2). -/
def factorOrdered (item : FactorItem) (values : List Nat) : Bool :=
  match item with
  | .qualityMap => true
  | .kc => nonIncreasing values
  | _ => nonDecreasing values

/-- The values of a factor table. -/
def FactorTables.values (t : FactorTables) : FactorItem → List Nat
  | .kp => t.kp
  | .ka => t.ka
  | .dq => t.dq
  | .qualityMap => t.qualityMap
  | .kc => t.kc
  | .kr => t.kr
  | .undefined _ => []

/-- Replace one factor table whole (R27). -/
def FactorTables.replace (t : FactorTables) (item : FactorItem) (values : List Nat) : FactorTables :=
  match item with
  | .kp => { t with kp := values }
  | .ka => { t with ka := values }
  | .dq => { t with dq := values }
  | .qualityMap => { t with qualityMap := values }
  | .kc => { t with kc := values }
  | .kr => { t with kr := values }
  | .undefined _ => t

/-- The fields of a LINE or ARC lie within their ranges (R47). -/
def cutInRange (c : Cut) : Bool :=
  within 1 600000 c.length && within 0 3599 c.entryDir && within 0 3599 c.exitDir && within 0 7 c.quality

/-- Every field of a POST lies within its range (R47). -/
def postInRange : PostBody → Bool
  | .known (.traverse length) => within 1 600000 length
  | .known (.pierce none) => true
  | .known (.pierce (some dwell)) => within 100 30000 dwell
  | .known (.line cut) => cutInRange cut && cut.entryDir == cut.exitDir
  | .known (.arc cut radius) => cutInRange cut && within 5 50000 radius
  | .unknownKind _ => false

end Sys2Proof.Machine
end

