-- ==== Sys2Proof/Machine/Feed.lean ====
section
/-! DEFINITION. The feed calculator (chapter 2): tables, segment feed, junction feed, pressure ratio and the
shared-pierce test. It keeps nothing between requests (R18). -/

namespace Sys2Proof.Machine

/-- The value between two neighbouring breakpoints (R19): the product exact, the one division truncated toward
zero. -/
def interpolate (b0 b1 v0 v1 x : Nat) : Nat :=
  ((v0 : Int) + Int.tdiv (((v1 : Int) - v0) * ((x : Int) - b0)) ((b1 : Int) - b0)).toNat

/-- A piecewise-linear table read at an argument at or above its first breakpoint (R19); above its last, the last
entry. -/
def readTable : List Nat → List Nat → Nat → Nat
  | b0 :: b1 :: bs, v0 :: v1 :: vs, x =>
    if x < b1 then interpolate b0 b1 v0 v1 x else readTable (b1 :: bs) (v1 :: vs) x
  | _, v :: _, _ => v
  | _, [], _ => 0

/-- The breakpoints of the pressure factor table in bar (R21). -/
def kpBreakpoints : List Nat := [500, 1000, 1500, 2000, 2500, 3000, 3500, 4000, 4500, 5000, 5500, 6000, 6500]

/-- The breakpoints of the corner factor table in 0.1 degree (R25). -/
def kcBreakpoints : List Nat := [0, 200, 400, 600, 800, 1000, 1200, 1400, 1600, 1800]

/-- The breakpoints of the arc factor table in 0.1 mm (R26). -/
def krBreakpoints : List Nat := [20, 50, 100, 200, 500, 1000, 2000, 5000]

/-- Kp at a pressure (R21): 0 below 500 bar. -/
def readKp (t : FactorTables) (x : Nat) : Nat := if x < 500 then 0 else readTable kpBreakpoints t.kp x

/-- Ka at a metering level 1..16 (R22). -/
def readKa (t : FactorTables) (level : Nat) : Nat := t.ka.getD (level - 1) 0

/-- The speed class of a segment quality (R24). -/
def speedClass (t : FactorTables) (quality : Nat) : Nat := t.qualityMap.getD quality 0

/-- Dq of a speed class 1..4 (R23). -/
def readDq (t : FactorTables) (cls : Nat) : Nat := t.dq.getD (cls - 1) 0

/-- Kc at a turn angle 0..1800 (R25). -/
def readKc (t : FactorTables) (angle : Nat) : Nat := readTable kcBreakpoints t.kc angle

/-- Kr at an arc radius (R26): the first entry below 20. -/
def readKr (t : FactorTables) (radius : Nat) : Nat :=
  if radius < 20 then t.kr.getD 0 0 else readTable krBreakpoints t.kr radius

/-- A per-mille factor applied to a value (R20). -/
def applyFactor (v f : Nat) : Nat := v * f / 1000

/-- The pressure ratio of `x` against a cut pressure (R29). -/
def pressureRatio (t : FactorTables) (x pCut : Nat) : Nat :=
  if readKp t pCut = 0 then 0 else min 1000 (1000 * readKp t x / readKp t pCut)

/-- The turn angle between two directions (R30). -/
def turnAngle (d1 d2 : Nat) : Nat :=
  let d := max d1 d2 - min d1 d2
  min d (3600 - d)

/-- Stages 1 and 2: the straight feed F1 (R31). -/
def straightFeed (t : FactorTables) (r : Recipe) (quality : Nat) : Nat :=
  r.sb * readKp t r.pCut * readKa t r.lCut / (1000 * readDq t (speedClass t quality))

/-- Stage 3: F2, with the radius of an ARC (R32). -/
def arcFeed (t : FactorTables) (f1 : Nat) (radius : Option Nat) : Nat :=
  match radius with
  | some r => applyFactor f1 (readKr t r)
  | none => f1

/-- Stage 4: F3 (R32). -/
def closingFeed (r : Recipe) (f2 : Nat) (closing : Bool) : Nat :=
  if closing then applyFactor f2 r.closingFactor else f2

/-- Stage 5: the clamp into 1..6000 (R33). -/
def clampFeed (f3 : Nat) : Nat := max 1 (min 6000 f3)

/-- F_seg of a LINE or ARC (R31 to R33). -/
def cutFeed (t : FactorTables) (r : Recipe) (cut : Cut) (radius : Option Nat) : Nat :=
  clampFeed (closingFeed r (arcFeed t (straightFeed t r cut.quality) radius) cut.closing)

/-- The fields a LINE or ARC carries; none for a TRAVERSE or PIERCE. -/
def Segment.cut? : Segment → Option Cut
  | .line cut => some cut
  | .arc cut _ => some cut
  | _ => none

/-- The segment is a LINE or ARC. -/
def Segment.isCut (seg : Segment) : Bool := (Segment.cut? seg).isSome

/-- F_seg of a segment: 0 for a TRAVERSE and a PIERCE (R35). -/
def segmentFeed (t : FactorTables) (r : Recipe) : Segment → Nat
  | .line cut => cutFeed t r cut none
  | .arc cut radius => cutFeed t r cut (some radius)
  | _ => 0

/-- The queue entry of an accepted POST (R35). -/
def newEntry (segId : Nat) (seg : Segment) (fSeg : Nat) : Entry :=
  match Segment.cut? seg with
  | some cut =>
    if cut.endJetOff then { segId := segId, seg := seg, fSeg := fSeg, fJunc := 0, junction := .final }
    else { segId := segId, seg := seg, fSeg := fSeg, fJunc := fSeg, junction := .provisional }
  | none => { segId := segId, seg := seg, fSeg := 0, fJunc := 0, junction := .final }

/-- The junction feed towards a successor (R36). -/
def junctionFeed (t : FactorTables) (exitDir entryDir f1 f2 : Nat) : Nat :=
  applyFactor (min f1 f2) (readKc t (turnAngle exitDir entryDir))

/-- The tail of the queue with its junction finalised towards the new segment, when it is a LINE or ARC with a
PROVISIONAL junction and the new segment is a LINE or ARC (R36). -/
def finalise (t : FactorTables) (tail : Entry) (seg : Segment) (fSeg : Nat) : Option Entry :=
  match tail.junction, Segment.cut? tail.seg, Segment.cut? seg with
  | .provisional, some before, some after =>
    some { tail with fJunc := junctionFeed t before.exitDir after.entryDir tail.fSeg fSeg, junction := .final }
  | _, _, _ => none

/-- The feed of the other lane that the shared-pierce test reads (R38). -/
def State.otherFeed (s : State) (other : Lane) : Option Nat :=
  match s.laneState other with
  | .cutting =>
    match (s.lane other).seq.released with
    | .segment e => some e.fSeg
    | _ => none
  | .openIdle =>
    match (s.lane other).queue.entries with
    | e :: _ => if Segment.isCut e.seg then some e.fSeg else none
    | [] => none
  | _ => none

/-- The shared-pierce test (R39): the other lane's feed, scaled to the pierce pressure, holds its recipe's floor. -/
def State.sharedPierce (s : State) (other : Lane) (piercePressure : Nat) : Bool :=
  match s.otherFeed other with
  | some f =>
    decide ((s.recipe other).feedFloor ≤
      applyFactor f (pressureRatio s.config.tables piercePressure (s.recipe other).pCut))
  | none => false

end Sys2Proof.Machine
end

