-- ==== Sys2Proof/Machine/Store.lean ====
section
/-! DEFINITION. The segment store: lane queues and completion FIFOs (chapter 3). -/

namespace Sys2Proof.Machine

/-- The region of a lane queue (R40). -/
def State.queueRegion (s : State) : Lane → Region
  | .A => s.config.partition.queueA
  | .B => s.config.partition.queueB

/-- The region of a completion FIFO (R40). -/
def State.fifoRegion (s : State) : Lane → Region
  | .A => s.config.partition.fifoA
  | .B => s.config.partition.fifoB

/-- The watermark of a lane queue (R40). -/
def State.watermark (s : State) : Lane → Nat
  | .A => s.config.partition.watermarkA
  | .B => s.config.partition.watermarkB

/-- The mode of a completion FIFO (R40). -/
def State.fifoMode (s : State) : Lane → FifoMode
  | .A => s.config.partition.modeA
  | .B => s.config.partition.modeB

/-- The slot after a slot of a region, from the last slot back to the first (R45). -/
def nextSlot (region : Region) (slot : Nat) : Nat :=
  if slot + 1 < region.start + region.size then slot + 1 else region.start

/-- The head of a lane queue. -/
def State.queueHead (s : State) (L : Lane) : Option Entry := (s.lane L).queue.entries.head?

/-- The number of entries of a lane queue (R45). -/
def State.fill (s : State) (L : Lane) : Nat := (s.lane L).queue.entries.length

/-- An entry is written at the put index, which moves on (R45). -/
def State.enqueue (s : State) (L : Lane) (e : Entry) : State :=
  s.modQueue L fun q =>
    { q with entries := q.entries ++ [e], put := nextSlot (s.queueRegion L) q.put }

/-- The tail of a lane queue is replaced: its junction finalised (R36, R45). -/
def State.replaceTail (s : State) (L : Lane) (e : Entry) : State :=
  s.modQueue L fun q => { q with entries := q.entries.dropLast ++ [e] }

/-- A release takes the head: the get index moves on, the fill falls by one, and QUEUE_LOW is raised when the fill
falls below the watermark (R51). -/
def State.dequeue (s : State) (L : Lane) : State :=
  let taken := s.modQueue L fun q =>
    { q with entries := q.entries.tail, get := nextSlot (s.queueRegion L) q.get }
  if 0 < s.watermark L ∧ s.fill L = s.watermark L then taken.raiseHead L .queueLow else taken

/-- A lane queue is emptied, both indices at the first slot of its region (R45, R52). -/
def State.emptyQueue (s : State) (L : Lane) : State :=
  s.modQueue L fun _ => .emptied (s.queueRegion L)

/-- What a slot of the store holds of a lane queue: the entry at `k` places behind the get index (R45). -/
def ringSlot (region : Region) (get k : Nat) : Nat := region.start + (get - region.start + k) % region.size

/-- A lane writes a completion record into its FIFO (R55). -/
def State.writeRecord (s : State) (L : Lane) (r : Record) : State :=
  let store (f : List Record → List Record) : State := s.modLane L fun u => { u with fifo := f u.fifo }
  let lost (t : State) : State := (t.countLane L (.addLost 1)).raiseHead L .completionLost
  let fifo := (s.lane L).fifo
  if fifo = [] then (store fun _ => [r]).raiseHead L .completionReady
  else if fifo.length < (s.fifoRegion L).size then store fun records => records ++ [r]
  else
    match s.fifoMode L with
    | .keep => lost s
    | .overwrite => lost (store fun records => records.tail ++ [r])

/-- The record kind of a segment (R53). -/
def segmentRecordKind : Segment → RecordKind
  | .traverse _ => .traverse
  | .pierce _ => .pierce
  | .line _ => .line
  | .arc _ _ => .arc

/-- The completion record of what a lane has released, ended so, as things stand (R53, R54); none while nothing is
released. min_override stands for a LINE or ARC, abrasive_steps for all but a TRAVERSE. -/
def State.releasedRecord (s : State) (L : Lane) (outcome : RecordEnd) : Option Record :=
  let q := (s.lane L).seq
  let elapsed := q.elapsed.getD 0
  match q.released with
  | .none => none
  | .segment e =>
    some
      { segId := e.segId
        kind := segmentRecordKind e.seg
        outcome := outcome
        timestamp := s.timestamp
        elapsed := elapsed
        minOverride := if Segment.isCut e.seg then some ((s.lane L).gov.segmentMin.getD 1000) else none
        steps := match e.seg with
          | .traverse _ => none
          | _ => some q.stepCount
        discarded := none }
  | .repierce segId _ =>
    some
      { segId := segId, kind := .repierce, outcome := outcome, timestamp := s.timestamp, elapsed := elapsed,
        minOverride := none, steps := some q.stepCount, discarded := none }

/-- The completion record of what a lane has released is written, if anything is (R53, R54). -/
def State.recordReleased (s : State) (L : Lane) (outcome : RecordEnd) : State :=
  match s.releasedRecord L outcome with
  | some r => s.writeRecord L r
  | none => s

/-- The seg_id of an ABORT record (R54). -/
def Sequencer.abortSegId (q : Sequencer) : Nat :=
  match q.released with
  | .segment e => e.segId
  | .repierce segId _ => segId
  | .none => q.lastSegId.getD 0

/-- The ABORT record (R53, R54). -/
def abortRecord (segId timestamp discarded : Nat) : Record :=
  { segId := segId, kind := .abort, outcome := .aborted, timestamp := timestamp, elapsed := 0, minOverride := none,
    steps := none, discarded := some discarded }

/-- The codes of record kinds (R175). -/
def recordKindCode : RecordKind → Nat
  | .traverse => 0
  | .pierce => 1
  | .line => 2
  | .arc => 3
  | .repierce => 4
  | .abort => 5

/-- The codes of fault causes (R175). -/
def faultCauseCode : FaultCause → Nat
  | .abrasiveLoss => 1
  | .pumpLoss => 2
  | .inhibit => 3
  | .stall => 4
  | .starved => 5
  | .lockTimeout => 6

/-- The codes of the end of a record (R175). -/
def recordEndCode : RecordEnd → Nat
  | .done => 0
  | .aborted => 1
  | .faulted cause => 1 + faultCauseCode cause

/-- The 11 bytes of a completion record (R177). -/
def recordBytes (r : Record) : List Byte :=
  beBytes 2 r.segId ++ [byte (recordKindCode r.kind * 16 + recordEndCode r.outcome)] ++ beBytes 2 r.timestamp ++
    beBytes 2 r.elapsed ++ beBytes 2 (r.steps.getD 0) ++
    beBytes 2 (match r.kind with
      | .line => r.minOverride.getD 0
      | .arc => r.minOverride.getD 0
      | .abort => r.discarded.getD 0
      | _ => 0)

/-- COMPL_READ, handed on (R56): the lane must not be MIRRORED and n within 1..4; the k oldest records are removed and
returned. -/
def State.takeComplRead (s : State) (L : Lane) (n : Nat) : State :=
  if s.laneState L = .mirrored then s.refuse L.port kindComplRead .mirrored
  else if !within 1 4 n then s.refuse L.port kindComplRead .badField
  else
    let k := min n (s.lane L).fifo.length
    let read := (s.lane L).fifo.take k
    (s.modLane L fun u => { u with fifo := u.fifo.drop k }).reply L.port kindComplRead .ok
      (byte k :: read.flatMap recordBytes)

/-- COMPL_READ (R56). -/
def execComplRead (L : Lane) (n : Nat) (s : State) : Host.Outcome State Fault Refusal :=
  .next (s.handOn L.port (.complRead L n) fun s => s.takeComplRead L n)

end Sys2Proof.Machine
end

