-- ==== Sys2Proof/Machine/Metering.lean ====
section
/-! DEFINITION. Abrasive metering: the step generator and the flow filter (chapter 8). The end of a flow window,
which may fault the lane, stands in Machine/Flow.lean. -/

namespace Sys2Proof.Machine

/-- An operation on the metering unit of a lane, made on lane B's as well when lane B follows lane A (R162). -/
def State.onMetering (s : State) (L : Lane) (f : State → Lane → State) : State :=
  match L with
  | .A => if s.mirror then f (f s .A) .B else f s .A
  | .B => f s .B

/-- A generator at level `n` emits a step in slot `k` (R148). -/
def emitsStep (k n : Nat) : Bool := decide (k * n / 16 < (k + 1) * n / 16)

/-- One step is emitted: it counts in ABRASIVE_STEPS, and in the step count when something is released (R151). -/
def State.emitStep (s : State) (L : Lane) : State :=
  let counted := s.countLane L .addAbrasiveStep
  if (s.lane L).seq.released = .none then counted
  else counted.modSeq L fun q => { q with stepCount := min shortMax (q.stepCount + 1) }

/-- The level in force from the beginning of a slot: a pending level takes effect at slot 0 (R148, R149). -/
def Generator.applyPending (g : Generator) : Generator :=
  match g.pendingLevel with
  | some n => if g.slot = 0 then { g with level := n, pendingLevel := none } else g
  | none => g

/-- A slot begins (R148): a pending level applies at slot 0, the slot timer starts, and a step is emitted when the
pattern gives one. -/
def State.beginSlot (s : State) (L : Lane) : State :=
  let g := (s.lane L).gen.applyPending
  let started := s.modGen L fun _ => { g with slotTimer := some s.config.timing.slotTime }
  if emitsStep g.slot g.level then started.emitStep L else started

/-- The flow monitor starts its first window and its grace at a START (R154, R155, R159). -/
def FlowMonitor.start (t : Timing) : FlowMonitor :=
  { edgeCount := 0
    windowTimer := some t.windowLength
    grace := if t.graceTime = 0 then .expiring else .running t.graceTime
    badCount := 0
    goodCount := 0
    lastWindow := none }

/-- The flow monitor as a stop of the generator leaves it: the last window count is kept (R159). -/
def FlowMonitor.stop (m : FlowMonitor) : FlowMonitor :=
  { m with edgeCount := 0, windowTimer := none, grace := .stopped, badCount := 0, goodCount := 0 }

/-- A LEVEL command (R147, R149): nothing while stopped; the level in force cancels a pending one, another becomes
the pending level. -/
def Generator.setLevel (n : Nat) (g : Generator) : Generator :=
  if !g.running then g
  else if n = g.level then { g with pendingLevel := none }
  else { g with pendingLevel := some n }

/-- One metering unit takes a START at level `n` (R147). -/
def State.startUnit (n : Nat) (s : State) (L : Lane) : State :=
  if (s.lane L).gen.running then s.modGen L (.setLevel n)
  else
    let started := s.modGen L fun _ => { running := true, level := n, pendingLevel := none, slot := 0, slotTimer := none }
    (started.modMon L fun _ => .start s.config.timing).beginSlot L

/-- One metering unit takes a STOP (R147, R150): nothing while stopped. -/
def State.stopUnit (s : State) (L : Lane) : State :=
  if (s.lane L).gen.running then (s.modGen L fun _ => .stopped).modMon L .stop else s

/-- The lane commands START at level `n` (R147, R162). -/
def State.meterStart (s : State) (L : Lane) (n : Nat) : State := s.onMetering L (State.startUnit n)

/-- The lane commands LEVEL to `n` (R147, R162). -/
def State.meterLevel (s : State) (L : Lane) (n : Nat) : State :=
  s.onMetering L fun s L => s.modGen L (.setLevel n)

/-- The lane commands STOP (R147, R162). -/
def State.meterStop (s : State) (L : Lane) : State := s.onMetering L State.stopUnit

/-- The next slot of one metering unit begins (R148). -/
def State.advanceSlot (s : State) (L : Lane) : State :=
  (s.modGen L fun g => { g with slot := (g.slot + 1) % 16 }).beginSlot L

/-- The lane whose slot timer drives a lane's generator: lane A's drives both while ganged (R162, log entry 22). -/
def State.slotLead (s : State) (L : Lane) : Lane := if s.mirror then .A else L

/-- The slot timer expires (R148); while ganged it is one event for both lanes (R162). -/
def State.slotExpiry (s : State) (L : Lane) : State :=
  let lead := s.slotLead L
  if Timer.due (s.lane lead).gen.slotTimer then s.onMetering lead State.advanceSlot else s

/-- The polarity counts an accepted edge to this level (R153). -/
def Polarity.counts : Polarity → Level → Bool
  | .rising, .high => true
  | .falling, .low => true
  | .both, _ => true
  | _, _ => false

/-- The filter accepts the level at the input: an edge, counted in the window while the generator runs (R152, R153). -/
def State.acceptEdge (s : State) (L : Lane) : State :=
  let level := (s.lane L).filter.input
  let accepted := s.modFilter L fun f => { f with accepted := level, timer := none }
  if (s.lane L).gen.running && s.config.timing.edgePolarity.counts level then
    accepted.modMon L fun m => { m with edgeCount := min 255 (m.edgeCount + 1) }
  else accepted

/-- The flow filter timer expires (R152). -/
def State.filterExpiry (s : State) (L : Lane) : State :=
  if Timer.due (s.lane L).filter.timer then s.acceptEdge L else s

/-- The filter acts on a change of its input's level (R152): away from the accepted level the filter timer starts, a
filter time of 0 accepting at once; back to it the timer stops. -/
def State.filterChange (s : State) (L : Lane) : State :=
  let f := (s.lane L).filter
  if f.input = f.accepted then s.modFilter L fun f => { f with timer := none }
  else if s.config.timing.filterTime = 0 then s.acceptEdge L
  else s.modFilter L fun f => { f with timer := some s.config.timing.filterTime }

/-- The level at a flow input becomes `level`. The input moves while the part is held at rest too, and is then read at
the start (R194); a level the input already has is no change. -/
def State.flowInputChange (s : State) (L : Lane) (level : Level) : State :=
  if (s.lane L).filter.input = level then s
  else (s.modFilter L fun f => { f with input := level }).unlessHeld fun s => s.filterChange L

/-- SLOT_TIMER_EXPIRY (R148). -/
def execSlotTimerExpiry (L : Lane) (s : State) : Host.Outcome State Fault Refusal :=
  .next (s.unlessHeld fun s => s.slotExpiry L)

/-- FLOW_INPUT_CHANGE (R152). -/
def execFlowInputChange (L : Lane) (level : Level) (s : State) : Host.Outcome State Fault Refusal :=
  .next (s.flowInputChange L level)

/-- FLOW_FILTER_EXPIRY (R152). -/
def execFlowFilterExpiry (L : Lane) (s : State) : Host.Outcome State Fault Refusal :=
  .next (s.unlessHeld fun s => s.filterExpiry L)

end Sys2Proof.Machine
end

