-- ==== Sys2Proof/Machine/Monitor.lean ====
section
/-! DEFINITION. The pressure monitor's judgements: target changes, lock, samples and ripple (chapter 6). -/

namespace Sys2Proof.Machine

/-- The distance of two pressures. -/
def distance (a b : Nat) : Nat := max a b - min a b

/-- The lock conditions hold (R125). -/
def State.lockConditions (s : State) : Bool :=
  !s.monitor.lost && !s.monitor.history.isEmpty && s.monitor.ramped == s.arbiter.target &&
    decide (distance s.monitor.filtered s.arbiter.target ≤ s.config.timing.band)

/-- The lock conditions are judged (R125, R126): where they hold, an UNLOCKED monitor whose settle is stopped starts it;
where they fail, the settle stops and the monitor is UNLOCKED. -/
def State.judgeLock (s : State) : State :=
  if s.lockConditions then
    if s.monitor.locked || s.monitor.settleTimer.isSome then s
    else s.modMonitor fun m => { m with settleTimer := some s.config.timing.settle }
  else s.modMonitor fun m => { m with locked := false, settleTimer := none }

/-- The target the arbiter computes reaches the pump link (R109, R117, R126): a value the target already has is no
change; another makes the monitor UNLOCKED, stops the settle and is judged from a fresh start. -/
def State.setTarget (s : State) (t : Nat) : State :=
  if t = s.arbiter.target then s
  else
    ((s.modArbiter fun a => { a with target := t }).modMonitor fun m =>
      { m with locked := false, settleTimer := none }).judgeLock

/-- One ramp step from a setpoint toward a target (R116). -/
def rampToward (step target ramped : Nat) : Nat :=
  if ramped ≤ target then min target (ramped + step) else max target (ramped - step)

/-- The ramp step of a tick and the SETPOINT frame behind it (R116); the lock conditions are judged (R125). The first
SETPOINT after a start carries 0 with the run flag clear, whatever the target (R116, R194): no step is taken at that tick
(log entry 27). -/
def State.rampTick (s : State) : State :=
  let run := s.monitor.streaming && decide (0 < s.arbiter.target)
  let stepped := s.modMonitor fun m =>
    { m with
      ramped := if m.streaming then rampToward s.config.timing.rampStep s.arbiter.target m.ramped else 0
      lastRun := run
      streaming := true }
  (stepped.judgeLock).send .pump kindSetpoint (beBytes 2 stepped.monitor.ramped ++ [byte (flagNat run)])

/-- The mean of the samples, truncated; 0 of none (R120). -/
def meanPressure (history : List Nat) : Nat := history.sum / history.length

/-- How many samples the history holds at most (R120). -/
def historySize : Nat := 8

/-- A sample joins the history; when it is full the oldest is removed first (R120). -/
def joinHistory (history : List Nat) (p : Nat) : List Nat :=
  (if history.length < historySize then history else history.tail) ++ [p]

/-- The largest pressure a valid sample is taken as (R119). -/
def sampleMax : Nat := 7000

/-- The ripple of a window: the largest pressure minus the smallest (R128). -/
def rippleOf (window : List Nat) : Nat :=
  window.foldl max 0 - window.foldl min sampleMax

/-- How many samples a complete ripple window has (R128). -/
def windowSize : Nat := 64

/-- An event of the pump is raised on all three ports (R122, R129). -/
def State.raiseAll (s : State) (head : HeadEvent) (cell : CellEvent) : State :=
  ((s.raiseHead .A head).raiseHead .B head).raiseCell cell

/-- The ripple alarm is judged at a complete window (R129). -/
def State.judgeRipple (s : State) (r : Nat) : State :=
  if s.config.timing.assertThreshold ≤ r then
    if s.monitor.alarm then s
    else ((s.modMonitor fun m => { m with alarm := true }).raiseAll .ripple .ripple).countPump .addRipple
  else if r ≤ s.config.timing.deassertThreshold then s.modMonitor fun m => { m with alarm := false }
  else s

/-- A valid sample joins the ripple window; the 64th completes it (R128). -/
def State.joinWindow (s : State) (p : Nat) : State :=
  let window := s.monitor.window ++ [p]
  if window.length < windowSize then s.modMonitor fun m => { m with window := window }
  else
    let r := rippleOf window
    (s.modMonitor fun m => { m with window := [], lastRipple := some r }).judgeRipple r

/-- What a valid sample does to the monitor (R119, R123): it joins the history and the window, restarts the loss timer or
clears a loss, and the lock conditions are judged anew. -/
def State.takeSample (s : State) (pressure : Nat) : State :=
  let p := min sampleMax pressure
  let joined := s.modMonitor fun m =>
    { m with history := joinHistory m.history p, filtered := meanPressure (joinHistory m.history p) }
  let windowed := joined.joinWindow p
  let restarted := windowed.modMonitor fun m =>
    { m with
      lossTimer := some s.config.timing.lossLimit, lost := false, lossReason := none, lastStatus := some .running }
  restarted.judgeLock

/-- What the declaration of a pump loss does to the monitor (R122). -/
def State.monitorLost (s : State) (reason : LossReason) : State :=
  s.modMonitor fun m =>
    { m with
      lost := true, lossReason := some reason, lossTimer := none, history := [], filtered := 0, window := [],
      alarm := false, locked := false, settleTimer := none }

/-- The pump status of a FEEDBACK code (R118, R175). -/
def pumpStatusOf : Nat → PumpStatus
  | 1 => .running
  | 2 => .stopped
  | 3 => .tripped
  | _ => .badStatus

/-- The loss reason of a status that says the drive is out of service (R121). -/
def lossReasonOf : PumpStatus → LossReason
  | .stopped => .stopped
  | .tripped => .tripped
  | _ => .badStatus

end Sys2Proof.Machine
end

