-- ==== Sys2Proof/Machine/Lane.lean ====
section
/-! DEFINITION. What a lane sequencer does inside an event (chapter 4): notices, entry to READY, releases, release
attempts, pierce phases, faults and aborts. The arbiter sees an event once, with all of its changes made (R98): it
is called by the events of Machine/Sequencing.lean, after these operations. -/

namespace Sys2Proof.Machine

/-- The code of a segment kind in a notice or reply (R175). -/
def segmentKindCode : Segment → Nat
  | .traverse _ => 0
  | .pierce _ => 1
  | .line _ => 2
  | .arc _ _ => 3

/-- The code of a repierce (R175). -/
def repierceCode : Nat := 4

/-- seg_id, kind, F_seg and F_junc of a released entry (R69, R177, R178). -/
def releaseBody (e : Entry) : List Byte :=
  beBytes 2 e.segId ++ [byte (segmentKindCode e.seg)] ++ beBytes 2 e.fSeg ++ beBytes 2 e.fJunc

/-- A RELEASE notice of a queue entry (R69). -/
def State.noticeRelease (s : State) (L : Lane) (e : Entry) : State :=
  s.send L.port.link kindRelease (releaseBody e)

/-- A RELEASE notice of a repierce (R69). -/
def State.noticeRepierce (s : State) (L : Lane) (segId : Nat) : State :=
  s.send L.port.link kindRelease (beBytes 2 segId ++ [byte repierceCode] ++ beBytes 2 0 ++ beBytes 2 0)

/-- A PIERCE_DONE notice (R78). -/
def State.noticePierceDone (s : State) (L : Lane) (segId : Nat) : State :=
  s.send L.port.link kindPierceDone (beBytes 2 segId)

/-- An OVERRIDE notice; the override in force becomes its value, and the segment minimum follows it while a cut segment
is released (R135, R142). -/
def State.noticeOverride (s : State) (L : Lane) (o : Nat) : State :=
  (s.modGov L fun g => { g with lastSent := o, segmentMin := g.segmentMin.map (min o) }).send L.port.link
    kindOverride (beBytes 2 o)

/-- Every lane timer stops (R61, R81). -/
def Sequencer.stopTimers (q : Sequencer) : Sequencer :=
  { q with lockTimer := none, leadTimer := none, dwellTimer := none, stallTimer := none, purgeTimer := none }

/-- Starvation ends and the segment minimum is dropped, with the end of a released segment (R140, R142). -/
def Governor.endSegment (g : Governor) : Governor :=
  { g with starved := false, starvationTimer := none, segmentMin := none }

/-- Nothing is released any more: starvation and the segment minimum end with it (R140, R142). -/
def State.endReleased (s : State) (L : Lane) : State :=
  (s.modSeq L fun q => { q with released := .none, elapsed := none }).modGov L .endSegment

/-- Entry to READY (R88, R132): the valve is closed, metering and timers stop, nothing is released, and the override in
force is 1000. -/
def State.enterReady (s : State) (L : Lane) : State :=
  (((s.meterStop L).endReleased L).modSeq L fun q => { q.stopTimers with state := .ready }).modGov L fun g =>
    { g with current := 1000, lastSent := 1000 }

/-- The holder gives the grant back, if it is this lane (R105). -/
def State.giveBack (s : State) (L : Lane) : State :=
  s.modArbiter fun a =>
    match a.holder with
    | some h => if h.lane = L then { a with holder := none } else a
    | none => a

/-- The lane's entry leaves the pierce queue (R97). -/
def State.removeEntry (s : State) (L : Lane) : State :=
  s.modArbiter fun a => { a with queue := a.queue.filter fun e => e.lane != L }

/-- The lane has an entry in the pierce queue. -/
def State.hasEntry (s : State) (L : Lane) : Bool := s.arbiter.queue.any fun e => e.lane == L

/-- The lane waits with a reason (R61). -/
def State.setWait (s : State) (L : Lane) (w : WaitReason) : State := s.modSeq L fun q => { q with wait := w }

/-- The pending NEXT is answered (R68). -/
def State.answerNext (s : State) (L : Lane) : State :=
  s.modSeq L fun q => { q with nextPending := false, wait := .none }

/-- The repierce flag clears, and with it the kind it held (R61). -/
def State.clearRepierce (s : State) (L : Lane) : State :=
  s.modSeq L fun q => { q with repierceFlag := false, repierceKind := none }

/-- The lane asks the arbiter for a pierce (R94): a new entry at the tail, unless the lane already has one (R66); it
waits with reason PIERCE_QUEUE. -/
def State.askPierce (s : State) (L : Lane) (kind : PierceKind) : State :=
  let asked :=
    if s.hasEntry L then s
    else
      s.modArbiter fun a =>
        { a with
          queue := a.queue ++
            [{ lane := L, kind := kind, pressure := (s.recipe L).pPierce,
               waitTimer := some s.config.timing.pierceWaitLimit, noticeGiven := false }] }
  asked.setWait L .pierceQueue

/-- The queue head `e` becomes the released segment (R51, R68, R74): it leaves the queue, its elapsed count starts, and
the pending NEXT is answered. -/
def State.releaseHead (s : State) (L : Lane) (e : Entry) : State :=
  ((s.dequeue L).modSeq L fun q => { q with released := .segment e, elapsed := some 0 }).answerNext L

/-- A TRAVERSE is released (R68). `told` says that the reply to the NEXT tells of it, so that no notice is sent. -/
def State.releaseTraverse (s : State) (L : Lane) (e : Entry) (told : Bool) : State :=
  let released := (s.releaseHead L e).modSeq L fun q => { q with state := .traversing }
  if told then released else released.noticeRelease L e

/-- A LINE or ARC is released (R68, R135, R142, R151): the lane enters CUTTING, the stall timer stops, the step count
starts, and the override in force and the segment minimum become 1000. -/
def State.releaseCut (s : State) (L : Lane) (e : Entry) (told : Bool) : State :=
  let released := ((s.releaseHead L e).modSeq L fun q =>
    { q with state := .cutting, stallTimer := none, stepCount := 0 }).modGov L fun g =>
      { g with lastSent := 1000, segmentMin := some 1000 }
  if told then released else released.noticeRelease L e

/-- A release attempt of a lane in READY (R66). A cut segment at the head with the repierce flag clear does not
arise there; the lane is left as it is (log entry 14). -/
def State.attemptReady (s : State) (L : Lane) (told : Bool) : State :=
  match s.queueHead L with
  | none => s.setWait L .empty
  | some e =>
    match e.seg with
    | .traverse _ => (s.clearRepierce L).releaseTraverse L e told
    | .pierce _ => (s.clearRepierce L).askPierce L .full
    | _ =>
      match (s.lane L).seq.repierceFlag, (s.lane L).seq.repierceKind with
      | true, some kind => s.askPierce L kind
      | _, _ => s

/-- A release attempt of a lane in OPEN_IDLE (R67). A TRAVERSE or PIERCE at the head does not arise there; the lane
is left as it is. -/
def State.attemptOpenIdle (s : State) (L : Lane) (told : Bool) : State :=
  match s.queueHead L with
  | none => s.setWait L .empty
  | some e =>
    if Segment.isCut e.seg then
      match e.junction with
      | .final => s.releaseCut L e told
      | .provisional => s.setWait L .lookahead
    else s

/-- A release attempt, made whenever next_pending is set (R65). -/
def State.attempt (s : State) (L : Lane) (told : Bool) : State :=
  if (s.lane L).seq.nextPending then
    match s.laneState L with
    | .ready => s.attemptReady L told
    | .openIdle => s.attemptOpenIdle L told
    | _ => s
  else s

/-- The dwell of what is being pierced (R77). -/
def State.dwellLength (s : State) (L : Lane) : Nat :=
  match (s.lane L).seq.released with
  | .segment e =>
    match e.seg with
    | .pierce (some dwell) => dwell
    | _ => (s.recipe L).pierceDwell
  | .repierce _ .kerf => (s.recipe L).kerfDwell
  | _ => (s.recipe L).pierceDwell

/-- The seg_id of what is released; 0 of nothing. -/
def Released.segId : Released → Nat
  | .none => 0
  | .segment e => e.segId
  | .repierce segId _ => segId

/-- The lane enters OPEN_IDLE: the stall timer starts from its full length (R73). -/
def State.enterOpenIdle (s : State) (L : Lane) : State :=
  s.modSeq L fun q => { q with state := .openIdle, stallTimer := some s.config.timing.stallLimit }

/-- The dwell ends (R77, R79), in the order of R77: metering to L_cut, the grant given back, the record, PIERCE_DONE,
OPEN_IDLE, the count of a PIERCE; for a repierce the flag clears and a release attempt follows. -/
def State.endDwell (s : State) (L : Lane) : State :=
  let released := (s.lane L).seq.released
  let metered := (s.modSeq L fun q => { q with dwellTimer := none }).meterLevel L (s.recipe L).lCut
  let recorded := (metered.giveBack L).recordReleased L .done
  let idle := ((recorded.noticePierceDone L released.segId).endReleased L).enterOpenIdle L
  match released with
  | .repierce _ _ => (idle.clearRepierce L).attempt L false
  | _ => idle.countLane L .addSegmentsDone

/-- Phase DWELL begins (R76, R77): metering starts at L_pierce and the dwell timer starts; a dwell of 0 ends at once. -/
def State.enterDwell (s : State) (L : Lane) : State :=
  let dwelling := (s.meterStart L (s.recipe L).lPierce).modSeq L fun q =>
    { q with state := .piercing .dwell, leadTimer := none }
  if dwelling.dwellLength L = 0 then dwelling.endDwell L
  else dwelling.modSeq L fun q => { q with dwellTimer := some (dwelling.dwellLength L) }

/-- Phase OPEN begins (R75, R76): the valve opens, PIERCES counts, the lock timeout stops and the abrasive lead starts; a
lead of 0 ends at once. -/
def State.enterOpen (s : State) (L : Lane) : State :=
  let opened := (s.countLane L .addPierce).modSeq L fun q => { q with state := .piercing .opened, lockTimer := none }
  if (s.recipe L).abrasiveLead = 0 then opened.enterDwell L
  else opened.modSeq L fun q => { q with leadTimer := some (s.recipe L).abrasiveLead }

/-- Phase RAMP begins (R75): the lock timeout starts; with the monitor LOCKED already the valve opens at once. -/
def State.enterRamp (s : State) (L : Lane) : State :=
  let ramping := s.modSeq L fun q =>
    { q with state := .piercing .ramp, lockTimer := some s.config.timing.lockTimeout, stepCount := 0 }
  if ramping.monitor.locked then ramping.enterOpen L else ramping

/-- The lane takes the grant: for a PIERCE at the head as R74 gives, for a LINE or ARC at the head as R79 gives. `told`
says that the reply to the NEXT tells of a PIERCE's release. Another head does not arise (R95); nothing is then
released. -/
def State.takeGrant (s : State) (L : Lane) (kind : PierceKind) (told : Bool) : State :=
  match s.queueHead L with
  | some e =>
    match e.seg with
    | .pierce _ =>
      let released := s.releaseHead L e
      (if told then released else released.noticeRelease L e).enterRamp L
    | .traverse _ => s
    | _ =>
      ((s.modSeq L fun q => { q with released := .repierce e.segId kind, elapsed := some 0 }).noticeRepierce L
        e.segId).enterRamp L
  | none => s

/-- The cause faults a lane in this state (R80). -/
def FaultCause.reaches : FaultCause → LaneState → Bool
  | .pumpLoss, .piercing _ => true
  | .inhibit, .piercing _ => true
  | .pumpLoss, st => st.valveOpen
  | .inhibit, st => st.valveOpen
  | .abrasiveLoss, st => st.valveOpen
  | .starved, st => st == .cutting
  | .lockTimeout, st => st == .piercing .ramp
  | .stall, st => st == .openIdle

/-- The kind of what a fault found released (R81 item 5). -/
def faultedKind : Released → Option FaultedKind
  | .none => none
  | .segment e =>
    match e.seg with
    | .pierce _ => some .pierce
    | .line _ => some .line
    | .arc _ _ => some .arc
    | .traverse _ => none
  | .repierce _ kind => some (.repierce kind)

/-- A released PIERCE, LINE or ARC counts when it is faulted (R81 item 11). -/
def Released.endedByFault : Released → Nat
  | .segment e =>
    match e.seg with
    | .traverse _ => 0
    | _ => 1
  | _ => 0

/-- A released segment of any kind counts when it is aborted (R86 item 3). -/
def Released.endedByAbort : Released → Nat
  | .segment _ => 1
  | _ => 0

/-- Entry to FAULT (R81). -/
def State.enterFault (s : State) (L : Lane) (cause : FaultCause) : State :=
  let released := (s.lane L).seq.released
  let recorded := (s.meterStop L).recordReleased L (.faulted cause)
  let freed := (((recorded.endReleased L).giveBack L).removeEntry L)
  let faulted := freed.modSeq L fun q =>
    { q.stopTimers with
      state := .fault, lastFaulted := faultedKind released, nextPending := false, wait := .none,
      faultCause := some cause }
  ((faulted.countLane L .addFault).countLane L (.addEndedOther released.endedByFault)).raiseHead L .fault

/-- A cause reaches a lane: it enters FAULT in the states of R80 and is left as it is in every other. -/
def State.faultLane (s : State) (L : Lane) (cause : FaultCause) : State :=
  if cause.reaches (s.laneState L) then s.enterFault L cause else s

/-- A cause reaches both lanes in one event (R80, R107). -/
def State.faultBoth (s : State) (cause : FaultCause) : State := (s.faultLane .A cause).faultLane .B cause

/-- What a taken ABORT does to its lane (R86). -/
def State.abortLane (s : State) (L : Lane) : State :=
  let q := (s.lane L).seq
  let discarded := s.fill L
  let recorded := ((s.meterStop L).recordReleased L .aborted).countLane L (.addEndedOther q.released.endedByAbort)
  let emptied := (((recorded.giveBack L).removeEntry L).emptyQueue L).countLane L (.addEndedOther discarded)
  let written := emptied.writeRecord L (abortRecord q.abortSegId s.timestamp discarded)
  (written.enterReady L).modSeq L fun q =>
    { q with
      postedJet := false, nextPending := false, wait := .none, repierceFlag := false, repierceKind := none,
      faultCause := none }

/-- The purge ends (R72): the valve closes, the lane enters READY and a release attempt follows. -/
def State.endPurge (s : State) (L : Lane) : State := (s.enterReady L).attempt L false

end Sys2Proof.Machine
end

