-- ==== Sys2Proof/Machine/Arbiter.lean ====
section
/-! DEFINITION. The pressure arbiter (chapter 5): the target rule, the grant conditions, the grant, and the end of the
pierce wait. -/

namespace Sys2Proof.Machine

/-- The lane's jet counts in row 3 of the target rule (R106). -/
def LaneState.jetOn : LaneState → Bool
  | .cutting => true
  | .openIdle => true
  | .stopping => true
  | _ => false

/-- The lanes whose jets are on (R106 row 3). -/
def State.jetLanes (s : State) : List Lane := [Lane.A, Lane.B].filter fun L => (s.laneState L).jetOn

/-- The setpoint target: the first row of R106 that applies. -/
def State.targetRule (s : State) : Nat :=
  if s.inhibit || s.monitor.lost || !s.anyJobOpen then 0
  else
    match s.arbiter.holder with
    | some h => h.pressure
    | none =>
      match s.jetLanes.map fun L => (s.recipe L).pCut with
      | [] => s.config.timing.standbyPressure
      | p :: ps => ps.foldl min p

/-- The arbiter recomputes the target (R109). -/
def State.retarget (s : State) : State := s.setTarget s.targetRule

/-- The peer condition of an entry (R96 condition 4, R99). A peer in PIERCING does not arise with no grant held. -/
def State.peerHolds (s : State) (e : PierceEntry) : Bool :=
  match s.laneState e.lane.other with
  | .closed => true
  | .ready => true
  | .traversing => true
  | .fault => true
  | .mirrored => true
  | .cutting => s.sharedPierce e.lane.other e.pressure
  | .openIdle => s.sharedPierce e.lane.other e.pressure
  | .stopping => false
  | .piercing _ => false

/-- Conditions 1 to 3 of R96: no grant is held, the inhibit is not asserted, the pump is not lost. -/
def State.grantFree (s : State) : Bool := s.arbiter.holder.isNone && !s.inhibit && !s.monitor.lost

/-- PEER_PIERCE_WAITING for the head entry, once (R102). -/
def State.notifyPeer (s : State) (e : PierceEntry) (behind : List PierceEntry) : State :=
  if e.noticeGiven then s
  else
    (s.modArbiter fun a => { a with queue := { e with noticeGiven := true } :: behind }).raiseHead e.lane.other
      .peerPierceWaiting

/-- The head entry `e` is granted (R100): it leaves the queue, its lane becomes the holder, the target is recomputed, and
then the lane takes the grant. -/
def State.grant (s : State) (e : PierceEntry) (behind : List PierceEntry) (told : Bool) : State :=
  ((s.modArbiter fun a =>
    { a with queue := behind, holder := some { lane := e.lane, kind := e.kind, pressure := e.pressure } }).retarget).takeGrant
      e.lane e.kind told

/-- The arbiter's part of an event (R98, R100, R102, R109): it evaluates the grant for the head entry on the state the
event leaves, grants it or not, and recomputes the target. After a grant the next entry is the head and is
evaluated in turn; each round takes an entry from the queue, so `rounds` of one more than the queue's length is
enough. `told` is the lane whose NEXT is answered in this event. -/
def State.arbitrateFor (told : Option Lane) : Nat → State → State
  | 0, s => s.retarget
  | rounds + 1, s =>
    match s.arbiter.queue with
    | [] => s.retarget
    | e :: behind =>
      if s.grantFree then
        if s.peerHolds e then (s.grant e behind (told == some e.lane)).arbitrateFor told rounds
        else (s.notifyPeer e behind).retarget
      else s.retarget

/-- The arbiter's part of an event that answers no NEXT, at the event's end (log entry 7). -/
def State.arbitrate (s : State) : State := s.arbitrateFor none (s.arbiter.queue.length + 1)

/-- The end of an event: the arbiter's part, and the count of the last tick in VALVE_OPEN_MS if nothing is left of it that
can move a valve (log entry 16). -/
def State.conclude (s : State) : State := s.arbitrate.closeTick

/-- The pierce-wait timer of a lane's entry expires (R103): PIERCE_WAIT_LONG, and the entry goes on waiting. -/
def State.pierceWaitExpiry (s : State) (L : Lane) : State :=
  if s.arbiter.queue.any fun e => e.lane == L && Timer.due e.waitTimer then
    (s.modArbiter fun a =>
      { a with queue := a.queue.map fun e => if e.lane = L then { e with waitTimer := none } else e }).raiseHead L
        .pierceWaitLong
  else s

/-- PIERCE_GRANT (R98, R100): the arbiter evaluates the grant for the head entry and grants it when the conditions of R96
hold. As a command of its own it may come at any time (DESIGN CHOICE, log entry 26). -/
def execPierceGrant (s : State) : Host.Outcome State Fault Refusal :=
  .next (s.unlessHeld State.conclude)

/-- PIERCE_WAIT_TIMER_EXPIRY (R103). -/
def execPierceWaitTimerExpiry (L : Lane) (s : State) : Host.Outcome State Fault Refusal :=
  .next (s.unlessHeld fun s => s.pierceWaitExpiry L)

end Sys2Proof.Machine
end

