-- ==== Sys2Proof/Machine/Jobs.lean ====
section
/-! DEFINITION. Jobs: selection, JOB_OPEN and JOB_CLOSE (chapter 1). -/

namespace Sys2Proof.Machine

/-- The code test of an element for a material code (R12). -/
def Element.codeMatches (e : Element) (material : Nat) : Bool :=
  match e.type with
  | .exact => material == e.code1
  | .range => decide (e.code1 ≤ material) && decide (material ≤ e.code2)
  | .mask => material &&& e.code2 == e.code1 &&& e.code2

/-- An element among the consulted ones matches a job (R12). -/
def Element.matches (material thickness : Nat) (e : Element) : Bool :=
  e.enabled && decide (e.tmin ≤ thickness) && decide (thickness ≤ e.tmax) && e.codeMatches material

/-- The outcome of a selection (R13): the deciding position, or none for POLICY; the recipe it names, if any; whether it
succeeds. -/
structure Selection where
  source : Option Nat
  recipe : Option Nat
  succeeds : Bool
deriving DecidableEq, Repr

/-- The recipe record of a number is valid. -/
def ConfigStore.recipeValid (c : ConfigStore) (n : Nat) : Bool := (c.recipes.getD n .powerOn).valid

/-- What an action decides at a decision source (R13). -/
def ConfigStore.decideBy (c : ConfigStore) (source : Option Nat) (action : ElementAction) : Selection :=
  match action with
  | .use n => { source := source, recipe := some n, succeeds := c.recipeValid n }
  | .reject => { source := source, recipe := none, succeeds := false }

/-- What the non-match policy decides (R13). -/
def Control.policyAction (c : Control) : ElementAction :=
  match c.policy with
  | .use => .use c.defaultRecipe
  | .reject => .reject

/-- Selection (R13): the first consulted element that matches decides; with none, the non-match policy. -/
def ConfigStore.select (c : ConfigStore) (material thickness : Nat) : Selection :=
  let consulted := c.elements.take c.control.listLength
  match consulted.findIdx? (Element.matches material thickness) with
  | some i => c.decideBy (some i) (consulted.getD i .powerOn).action
  | none => c.decideBy none c.control.policyAction

/-- The body of a JOB_OPEN reply that reached selection (R177). -/
def selectionBody (sel : Selection) : List Byte := [byte (sel.source.getD 255), byte (sel.recipe.getD 255)]

/-- A JOB_OPEN is taken with the recipe selected (R14). -/
def State.openJob (s : State) (L : Lane) (recipe : Option Nat) : State :=
  ((s.enterReady L).modSeq L fun q =>
    { q with
      recipe := recipe, nextPending := false, wait := .none, repierceFlag := false, repierceKind := none,
      faultCause := none, postedJet := false, lastSegId := none }).conclude

/-- JOB_OPEN, handed on: the checks of R14 in their order. -/
def State.takeJobOpen (s : State) (L : Lane) (material thickness : Nat) : State :=
  let sel := s.config.select material thickness
  if s.laneState L = .mirrored then s.refuse L.port kindJobOpen .mirrored
  else if !within 10 1000 thickness then s.refuse L.port kindJobOpen .badField
  else if s.laneState L ≠ .closed then s.refuse L.port kindJobOpen .jobActive
  else if !sel.succeeds then s.reply L.port kindJobOpen .noRecipe (selectionBody sel)
  else (s.reply L.port kindJobOpen .ok (selectionBody sel)).openJob L sel.recipe

/-- A JOB_CLOSE is taken (R15). -/
def State.closeJob (s : State) (L : Lane) : State :=
  (s.modSeq L fun q =>
    { q with
      state := .closed, recipe := none, nextPending := false, wait := .none, repierceFlag := false,
      repierceKind := none, postedJet := false, lastSegId := none }).conclude

/-- JOB_CLOSE, handed on (R15). -/
def State.takeJobClose (s : State) (L : Lane) : State :=
  match s.laneState L with
  | .closed => s.refuse L.port kindJobClose .noJob
  | .mirrored => s.refuse L.port kindJobClose .mirrored
  | .ready =>
    if s.fill L = 0 then (s.reply L.port kindJobClose .ok []).closeJob L
    else s.refuse L.port kindJobClose .queueNotEmpty
  | _ => s.refuse L.port kindJobClose .busy

/-- JOB_OPEN (R14). -/
def execJobOpen (L : Lane) (material thickness : Nat) (s : State) : Host.Outcome State Fault Refusal :=
  .next (s.handOn L.port (.jobOpen L material thickness) fun s => s.takeJobOpen L material thickness)

/-- JOB_CLOSE (R15). -/
def execJobClose (L : Lane) (s : State) : Host.Outcome State Fault Refusal :=
  .next (s.handOn L.port (.jobClose L) fun s => s.takeJobClose L)

end Sys2Proof.Machine
end

