-- ==== Sys2Proof/Machine/Sequencing.lean ====
section
/-! DEFINITION. The lane requests POST, NEXT, DONE, RESUME and ABORT, the release attempt, and the expiries of the lane
timers (chapters 3 and 4). Each event ends with the arbiter's part (R98, R109). -/

namespace Sys2Proof.Machine

/-- The jet-state check of a POST (R49). -/
def jetAgrees (seg : Segment) (postedJet : Bool) : Bool :=
  if Segment.isCut seg then postedJet else !postedJet

/-- The posted jet state after an accepted POST (R49). -/
def postedJetAfter (seg : Segment) (postedJet : Bool) : Bool :=
  match seg with
  | .traverse _ => postedJet
  | .pierce _ => true
  | .line cut => !cut.endJetOff
  | .arc cut _ => !cut.endJetOff

/-- The seg_id that must follow the last accepted one (R48). -/
def followsLast (last : Option Nat) (segId : Nat) : Bool :=
  match last with
  | none => true
  | some n => segId == (n + 1) % 65536

/-- The tail of a lane queue. -/
def State.queueTail (s : State) (L : Lane) : Option Entry := (s.lane L).queue.entries.getLast?

/-- The tail as the new segment finalises it, if it does (R36). -/
def State.finalisedTail (s : State) (L : Lane) (seg : Segment) (fSeg : Nat) : Option Entry :=
  match s.queueTail L with
  | some tail => finalise s.config.tables tail seg fSeg
  | none => none

/-- The body of the OK reply to a POST (R50, R177). -/
def postBody (segId fSeg : Nat) (finalised : Option Entry) : List Byte :=
  beBytes 2 segId ++ beBytes 2 fSeg ++
    match finalised with
    | some e => byte 1 :: beBytes 2 e.segId ++ beBytes 2 e.fJunc
    | none => byte 0 :: beBytes 2 0 ++ beBytes 2 0

/-- What an accepted POST stores (R50): the tail's junction, the new entry, the last accepted seg_id and the posted jet
state. -/
def State.storePost (s : State) (L : Lane) (segId : Nat) (seg : Segment) (fSeg : Nat) : State :=
  let finalised :=
    match s.finalisedTail L seg fSeg with
    | some e => s.replaceTail L e
    | none => s
  (finalised.enqueue L (newEntry segId seg fSeg)).modSeq L fun q =>
    { q with lastSegId := some segId, postedJet := postedJetAfter seg q.postedJet }

/-- An accepted POST (R50): the reply, the stored entry and, with a NEXT pending, a release attempt. The arbiter
evaluates when the POST came into an empty queue or a release attempt was made (R98, R104). -/
def State.acceptPost (s : State) (L : Lane) (segId : Nat) (seg : Segment) (fSeg : Nat) : State :=
  let replied := s.reply L.port kindPost .ok (postBody segId fSeg (s.finalisedTail L seg fSeg))
  let stored := replied.storePost L segId seg fSeg
  if (s.lane L).seq.nextPending then (stored.attempt L false).conclude
  else if s.fill L = 0 then stored.conclude
  else stored

/-- POST, handed on: the seven checks of R46 in their order. -/
def State.takePost (s : State) (L : Lane) (segId : Nat) (body : PostBody) : State :=
  if s.laneState L = .closed then s.refuse L.port kindPost .noJob
  else if s.laneState L = .mirrored then s.refuse L.port kindPost .mirrored
  else if !postInRange body then s.refuse L.port kindPost .badField
  else if !followsLast (s.lane L).seq.lastSegId segId then s.refuse L.port kindPost .outOfSequence
  else
    match body with
    | .unknownKind _ => s.refuse L.port kindPost .badField
    | .known seg =>
      let fSeg := segmentFeed s.config.tables (s.recipe L) seg
      if !jetAgrees seg (s.lane L).seq.postedJet then s.refuse L.port kindPost .jetState
      else if (s.queueRegion L).size ≤ s.fill L then s.refuse L.port kindPost .queueFull
      else if Segment.isCut seg && decide (fSeg < (s.recipe L).feedFloor) then
        s.reply L.port kindPost .belowFloor (beBytes 2 segId ++ beBytes 2 fSeg)
      else s.acceptPost L segId seg fSeg

/-- The answer to a taken NEXT (R64). -/
inductive NextAnswer where
  | released (entry : Entry)
  | waiting (reason : WaitReason)
deriving DecidableEq, Repr

/-- The codes of wait reasons (R175). -/
def waitReasonCode : WaitReason → Nat
  | .none => 0
  | .empty => 1
  | .lookahead => 2
  | .pierceQueue => 3
  | .stopping => 4

/-- The body of the OK reply to a NEXT (R177). -/
def nextBody : NextAnswer → List Byte
  | .released e => byte 0 :: releaseBody e
  | .waiting reason => [byte 1, byte (waitReasonCode reason)]

/-- What a taken NEXT does behind its reply (R63): next_pending is set; in STOPPING it waits, and otherwise a release
attempt runs. The releases that the reply tells of send no notice (R64, R74). -/
def State.runNext (s : State) (L : Lane) : State :=
  let pending := s.modSeq L fun q => { q with nextPending := true }
  if s.laneState L = .stopping then pending.setWait L .stopping
  else
    let attempted := pending.attempt L true
    (attempted.arbitrateFor (some L) (attempted.arbiter.queue.length + 1)).closeTick

/-- The answer to a NEXT (R64): RELEASED when its own attempt releases the queue head in the event; a repierce is
WAITING(PIERCE_QUEUE) even when its grant comes in the event. -/
def State.nextAnswer (s : State) (L : Lane) : NextAnswer :=
  let after := (s.runNext L).lane L
  match s.queueHead L with
  | some e =>
    if s.laneState L = .ready ∧ Segment.isCut e.seg ∧ (s.lane L).seq.repierceFlag then .waiting .pierceQueue
    else if after.seq.nextPending then .waiting after.seq.wait
    else .released e
  | none => .waiting after.seq.wait

/-- NEXT, handed on: the five checks of R63 in their order; the reply goes before the notices of its event (R64). -/
def State.takeNext (s : State) (L : Lane) : State :=
  let refuse := s.refuse L.port kindNext
  match s.laneState L with
  | .mirrored => refuse .mirrored
  | .closed => refuse .noJob
  | .fault => refuse .faulted
  | st =>
    if (s.lane L).seq.nextPending then refuse .alreadyPending
    else if st = .ready ∨ st = .openIdle ∨ st = .stopping then
      (s.reply L.port kindNext .ok (nextBody (s.nextAnswer L))).runNext L
    else refuse .busy

/-- What a DONE ends and where the lane goes (R71, R72): the record, the counts, nothing released, and then STOPPING with
the purge, OPEN_IDLE or READY. A purge of 0 ends at once. -/
def State.finish (s : State) (L : Lane) (e : Entry) : State :=
  let counted := (s.recordReleased L .done).countLane L .addSegmentsDone
  match Segment.cut? e.seg with
  | none => counted.enterReady L
  | some cut =>
    let ended := (counted.countLane L (.addCutLength cut.length)).endReleased L
    if cut.endJetOff then
      let stopping := (ended.meterStop L).modSeq L fun q => { q with state := .stopping }
      if (s.recipe L).purge = 0 then stopping.endPurge L
      else stopping.modSeq L fun q => { q with purgeTimer := some (s.recipe L).purge }
    else ended.enterOpenIdle L

/-- DONE, handed on (R70). -/
def State.takeDone (s : State) (L : Lane) (segId : Nat) : State :=
  let refuse := s.refuse L.port kindDone
  let judge : State :=
    match (s.lane L).seq.released with
    | .segment e =>
      if e.segId = segId then ((s.reply L.port kindDone .ok []).finish L e).conclude else refuse .wrongSegment
    | _ => refuse .wrongSegment
  match s.laneState L with
  | .mirrored => refuse .mirrored
  | .cutting => judge
  | .traversing => judge
  | .piercing _ => refuse .wrongSegment
  | _ => refuse .nothingReleased

/-- The cause of a lane's fault is still present (R83 check 3). -/
def State.causePresent (s : State) (L : Lane) : Bool :=
  match (s.lane L).seq.faultCause with
  | some .pumpLoss => s.monitor.lost
  | some .inhibit => s.inhibit
  | _ => false

/-- A repierce is owed at a RESUME (R84 item 2). -/
def State.repierceOwed (s : State) (L : Lane) : Bool :=
  (s.lane L).seq.postedJet ||
    match s.queueHead L with
    | some e => Segment.isCut e.seg
    | none => false

/-- The kind of an owed repierce (R84 item 3). -/
def repierceKindOf : Option FaultedKind → PierceKind
  | some .pierce => .full
  | some (.repierce .full) => .full
  | _ => .kerf

/-- A taken RESUME (R84). -/
def State.resumeLane (s : State) (L : Lane) : State :=
  let owed := s.repierceOwed L
  ((s.enterReady L).modSeq L fun q =>
    { q with
      faultCause := none, repierceFlag := owed
      repierceKind := if owed then some (repierceKindOf q.lastFaulted) else none }).conclude

/-- RESUME, handed on: the checks of R83 in their order. -/
def State.takeResume (s : State) (L : Lane) : State :=
  if s.laneState L = .mirrored then s.refuse L.port kindResume .mirrored
  else if s.laneState L ≠ .fault then s.refuse L.port kindResume .notFaulted
  else if s.causePresent L then s.refuse L.port kindResume .causePresent
  else (s.reply L.port kindResume .ok []).resumeLane L

/-- The port an ABORT comes from. -/
def AbortSource.port : AbortSource → Port
  | .head lane => lane.port
  | .cell _ => .C

/-- The lane an ABORT names; none for an undefined lane field (R85, R176). -/
def AbortSource.lane : AbortSource → Option Lane
  | .head lane => some lane
  | .cell 0 => some .A
  | .cell 1 => some .B
  | .cell _ => none

/-- ABORT, handed on: the checks of R85 in their order, and R86. -/
def State.takeAbort (s : State) (source : AbortSource) : State :=
  let p := AbortSource.port source
  match AbortSource.lane source with
  | none => s.refuse p kindAbort .badField
  | some L =>
    if s.laneState L = .mirrored then s.refuse p kindAbort .mirrored
    else if s.laneState L = .closed then s.refuse p kindAbort .noJob
    else ((s.reply p kindAbort .ok []).abortLane L).conclude

/-- The lock-timeout timer expires (R75). -/
def State.lockTimeoutExpiry (s : State) (L : Lane) : State :=
  if Timer.due (s.lane L).seq.lockTimer then
    ((s.modSeq L fun q => { q with lockTimer := none }).faultLane L .lockTimeout).conclude
  else s

/-- The abrasive-lead timer, which runs in phase OPEN (R60), expires (R76). -/
def State.leadExpiry (s : State) (L : Lane) : State :=
  if Timer.due (s.lane L).seq.leadTimer && s.laneState L == .piercing .opened then (s.enterDwell L).conclude else s

/-- The dwell timer, which runs in phase DWELL (R60), expires (R77). -/
def State.dwellExpiry (s : State) (L : Lane) : State :=
  if Timer.due (s.lane L).seq.dwellTimer && s.laneState L == .piercing .dwell then (s.endDwell L).conclude else s

/-- The stall timer expires (R73). -/
def State.stallExpiry (s : State) (L : Lane) : State :=
  if Timer.due (s.lane L).seq.stallTimer then
    ((s.modSeq L fun q => { q with stallTimer := none }).faultLane L .stall).conclude
  else s

/-- The purge timer, which runs in STOPPING (R60), expires (R72). -/
def State.purgeExpiry (s : State) (L : Lane) : State :=
  if Timer.due (s.lane L).seq.purgeTimer && s.laneState L == .stopping then (s.endPurge L).conclude else s

/-- The settle timer expires (R125, R127): the monitor becomes LOCKED, and a lane in RAMP opens its valve (R75). -/
def State.settleExpiry (s : State) : State :=
  if Timer.due s.monitor.settleTimer then
    let locked := s.modMonitor fun m => { m with locked := true, settleTimer := none }
    let report (t : State) (L : Lane) : State := if s.laneState L = .piercing .ramp then t.enterOpen L else t
    (report (report locked .A) .B).conclude
  else s

/-- POST (R50). -/
def execPost (L : Lane) (segId : Nat) (body : PostBody) (s : State) : Host.Outcome State Fault Refusal :=
  .next (s.handOn L.port (.post L segId body) fun s => s.takePost L segId body)

/-- NEXT (R63, R64). -/
def execNext (L : Lane) (s : State) : Host.Outcome State Fault Refusal :=
  .next (s.handOn L.port (.next L) fun s => s.takeNext L)

/-- RELEASE_ATTEMPT (R65). DESIGN CHOICE, log entry 26: R65 makes an attempt inside the events it lists; as a command of
its own it may come at any time, tells of a release by a notice, and the arbiter's part follows. -/
def execReleaseAttempt (L : Lane) (s : State) : Host.Outcome State Fault Refusal :=
  .next (s.unlessHeld fun s => (s.attempt L false).conclude)

/-- DONE (R71). -/
def execDone (L : Lane) (segId : Nat) (s : State) : Host.Outcome State Fault Refusal :=
  .next (s.handOn L.port (.done L segId) fun s => s.takeDone L segId)

/-- RESUME (R84). -/
def execResume (L : Lane) (s : State) : Host.Outcome State Fault Refusal :=
  .next (s.handOn L.port (.resume L) fun s => s.takeResume L)

/-- ABORT (R86). -/
def execAbort (source : AbortSource) (s : State) : Host.Outcome State Fault Refusal :=
  .next (s.handOn (AbortSource.port source) (.abort source) fun s => s.takeAbort source)

/-- LOCK_TIMEOUT_EXPIRY (R75). -/
def execLockTimeoutExpiry (L : Lane) (s : State) : Host.Outcome State Fault Refusal :=
  .next (s.unlessHeld fun s => s.lockTimeoutExpiry L)

/-- ABRASIVE_LEAD_EXPIRY (R76). -/
def execAbrasiveLeadExpiry (L : Lane) (s : State) : Host.Outcome State Fault Refusal :=
  .next (s.unlessHeld fun s => s.leadExpiry L)

/-- DWELL_EXPIRY (R77). -/
def execDwellExpiry (L : Lane) (s : State) : Host.Outcome State Fault Refusal :=
  .next (s.unlessHeld fun s => s.dwellExpiry L)

/-- STALL_EXPIRY (R73). -/
def execStallExpiry (L : Lane) (s : State) : Host.Outcome State Fault Refusal :=
  .next (s.unlessHeld fun s => s.stallExpiry L)

/-- PURGE_EXPIRY (R72). -/
def execPurgeExpiry (L : Lane) (s : State) : Host.Outcome State Fault Refusal :=
  .next (s.unlessHeld fun s => s.purgeExpiry L)

/-- SETTLE_TIMER_EXPIRY (R126). -/
def execSettleTimerExpiry (s : State) : Host.Outcome State Fault Refusal :=
  .next (s.unlessHeld State.settleExpiry)

end Sys2Proof.Machine
end

