-- ==== Sys2Proof/Machine/Flow.lean ====
section
/-! DEFINITION. Flow windows, grace and abrasive loss (R154 to R158, R166). -/

namespace Sys2Proof.Machine

/-- The window in progress ends within the grace (R155): at or before the tick at which the grace timer expires. -/
def Grace.covers : Grace → Bool
  | .running _ => true
  | .expiring => true
  | _ => false

/-- A bad window outside the grace (R156). -/
def FlowMonitor.countBad (m : FlowMonitor) : FlowMonitor := { m with badCount := m.badCount + 1, goodCount := 0 }

/-- A good window (R156): one that brings the good count to the clear count ends the spell, and the count is held
there. -/
def FlowMonitor.countGood (clearCount : Nat) (m : FlowMonitor) : FlowMonitor :=
  if m.goodCount + 1 < clearCount then { m with goodCount := m.goodCount + 1 }
  else { m with badCount := 0, goodCount := clearCount }

/-- The end of a window (R154, R155, R156): it is judged, its count becomes the last window count, it is counted unless
it is a bad grace window, and the next window begins. -/
def FlowMonitor.endWindow (t : Timing) (m : FlowMonitor) : FlowMonitor :=
  let good := decide (t.minimumEdgeCount ≤ m.edgeCount)
  let counted :=
    if good then m.countGood t.clearCount
    else if m.grace.covers then m
    else m.countBad
  { counted with lastWindow := some m.edgeCount, edgeCount := 0, windowTimer := some t.windowLength }

/-- The end of this window asserts the loss: a bad window outside the grace brings the bad count to the assert count
(R156, R157). -/
def FlowMonitor.asserts (t : Timing) (m : FlowMonitor) : Bool :=
  decide (m.edgeCount < t.minimumEdgeCount) && !m.grace.covers && decide (t.assertCount ≤ m.badCount + 1)

/-- The lane a loss of this lane's monitor faults: lane A for both while ganged (R166). -/
def State.lossLane (s : State) (L : Lane) : Lane := if s.mirror then .A else L

/-- The loss is asserted (R157): ABRASIVE_LOSS on the lane's head port, while ganged lane B's on port A as well (R166),
and the fault. -/
def State.assertLoss (s : State) (L : Lane) : State :=
  let raised := s.raiseHead L .abrasiveLoss
  let copied := if s.lossLane L = L then raised else raised.raiseHead (s.lossLane L) .abrasiveLoss
  (copied.faultLane (s.lossLane L) .abrasiveLoss).conclude

/-- The window timer expires (R154). -/
def State.windowExpiry (s : State) (L : Lane) : State :=
  let m := (s.lane L).mon
  if Timer.due m.windowTimer then
    let ended := s.modMon L fun m => m.endWindow s.config.timing
    if m.asserts s.config.timing then ended.assertLoss L else ended.closeTick
  else s

/-- The grace timer expires (R155). -/
def State.graceExpiry (s : State) (L : Lane) : State :=
  if (s.lane L).mon.grace = .running 0 then s.modMon L fun m => { m with grace := .expiring } else s

/-- WINDOW_TIMER_EXPIRY (R154). -/
def execWindowTimerExpiry (L : Lane) (s : State) : Host.Outcome State Fault Refusal :=
  .next (s.unlessHeld fun s => s.windowExpiry L)

/-- GRACE_TIMER_EXPIRY (R155). -/
def execGraceTimerExpiry (L : Lane) (s : State) : Host.Outcome State Fault Refusal :=
  .next (s.unlessHeld fun s => s.graceExpiry L)

end Sys2Proof.Machine
end

