-- ==== Sys2Proof/Machine/Governor.lean ====
section
/-! DEFINITION. The feed governors: evaluation, OVERRIDE notices and starvation (chapter 7). -/

namespace Sys2Proof.Machine

/-- The override of a lane (R134): the pressure share, derated while the ripple alarm is active. -/
def State.override (s : State) (L : Lane) : Nat :=
  let raw := pressureRatio s.config.tables s.monitor.filtered (s.recipe L).pCut
  if s.monitor.alarm then applyFactor raw (s.recipe L).rippleDerate else raw

/-- A lane in CUTTING whose scaled feed is below its recipe's floor at an override (R137). -/
def State.starves (s : State) (L : Lane) (o : Nat) : Bool :=
  match s.laneState L, (s.lane L).seq.released with
  | .cutting, .segment e => decide (applyFactor e.fSeg o < (s.recipe L).feedFloor)
  | _, _ => false

/-- The override is to be told (R136). -/
def tellsOverride (step o lastSent : Nat) : Bool :=
  decide (step ≤ distance o lastSent) || (o == 1000 && lastSent != 1000)

/-- Starvation begins (R137). -/
def State.beginStarving (s : State) (L : Lane) : State :=
  (((s.modGov L fun g =>
    { g with starved := true, starvationTimer := some s.config.timing.starvationLimit }).noticeOverride L 0).raiseHead L
      .starving).countLane L .addStarvation

/-- Starvation ends at an evaluation (R139). -/
def State.recover (s : State) (L : Lane) (o : Nat) : State :=
  (s.modGov L fun g => { g with starved := false, starvationTimer := none }).noticeOverride L o

/-- One governor evaluates its lane (R133 to R139), if it is in CUTTING or OPEN_IDLE. -/
def State.evaluateLane (s : State) (L : Lane) : State :=
  if s.laneState L = .cutting ∨ s.laneState L = .openIdle then
    let o := s.override L
    let judged := s.modGov L fun g => { g with current := o }
    if (s.lane L).gov.starved then
      if s.starves L o then judged else judged.recover L o
    else if s.starves L o then judged.beginStarving L
    else if tellsOverride s.config.timing.overrideStep o (s.lane L).gov.lastSent then judged.noticeOverride L o
    else judged
  else s

/-- The evaluation of an evaluation tick, made once by both governors (R133). -/
def State.evaluation (s : State) : State :=
  if s.evaluationDue then
    ((({ s with evaluationDue := false } : State).evaluateLane .A).evaluateLane .B).closeTick
  else s

/-- The starvation timer expires (R141). -/
def State.starvationExpiry (s : State) (L : Lane) : State :=
  if Timer.due (s.lane L).gov.starvationTimer then
    ((s.modGov L fun g => { g with starvationTimer := none }).faultLane L .starved).conclude
  else s

/-- GOVERNOR_EVALUATION (R133, R134). -/
def execGovernorEvaluation (s : State) : Host.Outcome State Fault Refusal :=
  .next (s.unlessHeld State.evaluation)

/-- STARVATION_TIMER_EXPIRY (R141). -/
def execStarvationTimerExpiry (L : Lane) (s : State) : Host.Outcome State Fault Refusal :=
  .next (s.unlessHeld fun s => s.starvationExpiry L)

end Sys2Proof.Machine
end

