-- ==== Sys2Proof/Machine/Pump.lean ====
section
/-! DEFINITION. What arrives from the pump drive, pump loss and the jet-inhibit input (chapter 6, R185). -/

namespace Sys2Proof.Machine

/-- The pump is declared lost (R121, R122): the monitor, the event on every port, the count, the faults of the lanes and
the arbiter. A pump already lost is not declared lost again. -/
def State.declareLost (s : State) (reason : LossReason) : State :=
  if s.monitor.lost then s
  else
    ((((s.monitorLost reason).raiseAll .pumpLoss .pumpLoss).countPump .addLoss).faultBoth .pumpLoss).conclude

/-- A valid sample arrives (R119); while the pump is lost it clears the loss, and the arbiter acts (R123). -/
def State.validSample (s : State) (pressure : Nat) : State :=
  if s.monitor.lost then (s.takeSample pressure).conclude else (s.takeSample pressure).closeTick

/-- A FEEDBACK frame with a good CRC arrives (R118, R119, R121). -/
def State.takeFeedback (s : State) (pressure code : Nat) : State :=
  match pumpStatusOf code with
  | .running => s.validSample pressure
  | status =>
    ((s.countPump .addBad).modMonitor fun m => { m with lastStatus := some status }).declareLost (lossReasonOf status)

/-- The loss timer expires (R121). -/
def State.lossExpiry (s : State) : State :=
  if Timer.due s.monitor.lossTimer then s.declareLost .timeout else s

/-- A valid sample that completes a ripple window arrives (R128); with fewer than 63 samples in the window none does. -/
def State.completeWindow (s : State) (pressure : Nat) : State :=
  if s.monitor.window.length + 1 = windowSize then s.validSample pressure else s

/-- The jet-inhibit input asserts (R185). The input moves while the part is held at rest too (R194); a level it already
has is no change. -/
def State.inhibitAssert (s : State) : State :=
  if s.inhibitInput then s
  else
    ({ s with inhibitInput := true } : State).unlessHeld fun s =>
      ((({ s with inhibit := true } : State).raiseCell .inhibit).faultBoth .inhibit).conclude

/-- The jet-inhibit input releases (R185). -/
def State.inhibitRelease (s : State) : State :=
  if s.inhibitInput then
    ({ s with inhibitInput := false } : State).unlessHeld fun s =>
      (({ s with inhibit := false } : State).raiseCell .inhibit).conclude
  else s

/-- FEEDBACK (R118). -/
def execFeedback (pressure code : Nat) (s : State) : Host.Outcome State Fault Refusal :=
  .next (s.unlessHeld fun s => s.takeFeedback pressure code)

/-- LOSS_TIMER_EXPIRY (R121). -/
def execLossTimerExpiry (s : State) : Host.Outcome State Fault Refusal :=
  .next (s.unlessHeld State.lossExpiry)

/-- RIPPLE_WINDOW_COMPLETE (R128): the arrival of the 64th valid sample of a window (log entry 15). -/
def execRippleWindowComplete (pressure : Nat) (s : State) : Host.Outcome State Fault Refusal :=
  .next (s.unlessHeld fun s => s.completeWindow pressure)

/-- INHIBIT_ASSERT (R185). -/
def execInhibitAssert (s : State) : Host.Outcome State Fault Refusal := .next s.inhibitAssert

/-- INHIBIT_RELEASE (R185). -/
def execInhibitRelease (s : State) : Host.Outcome State Fault Refusal := .next s.inhibitRelease

end Sys2Proof.Machine
end

