-- ==== Sys2Proof/Machine/Ports.lean ====
section
/-! DEFINITION. The link ports: bytes and frames received, frames sent, STATUS, the event unit requests and the
counter requests (chapter 10 and section 11.3). -/

namespace Sys2Proof.Machine

/-! ## Receiving and sending -/

/-- The master port of a link; the pump link has none (R169). -/
def Link.port? : Link → Option Port
  | .A => some .A
  | .B => some .B
  | .C => some .C
  | .pump => none

/-- The receiver of a link (R171). -/
def State.rx (s : State) : Link → Receiver
  | .A => s.portA.rx
  | .B => s.portB.rx
  | .C => s.portC.rx
  | .pump => s.pumpRx

/-- Change the receiver of a link. -/
def State.setRx (s : State) (l : Link) (r : Receiver) : State :=
  match l with
  | .A => s.modPort .A fun u => { u with rx := r }
  | .B => s.modPort .B fun u => { u with rx := r }
  | .C => s.modPort .C fun u => { u with rx := r }
  | .pump => { s with pumpRx := r }

/-- The time from which every byte restarts the gap timer (R171). -/
def gapTime : Nat := 2

/-- A frame is discarded (R171): the receiver hunts, and the discard is counted as `count` on a master link, in SAMPLES_BAD
on the pump link (R118). -/
def State.discardFrame (s : State) (l : Link) (count : PortCounters → PortCounters) : State :=
  let hunting := s.setRx l .hunting
  match Link.port? l with
  | some p => hunting.countPort p count
  | none => hunting.countPump .addBad

/-- A complete frame with a good CRC on a master link (R171, R172): it is counted, and what it asks for joins the requests
to be handed on. -/
def State.acceptFrame (s : State) (p : Port) (kind : Byte) (payload : List Byte) : State :=
  (s.countPort p .addOk).modPort p fun u => { u with line := u.line ++ [decodeFrame p kind payload] }

/-- A complete frame with a good CRC on the pump link (R118). -/
def State.acceptPumpFrame (s : State) (kind : Byte) (payload : List Byte) : State :=
  if kind.toNat = kindFeedback ∧ payload.length = 3 then
    s.takeFeedback (beNat (payload.take 2)) (beNat (payload.drop 2))
  else s.countPump .addBad

/-- A complete frame is judged by its CRC (R170, R171). -/
def State.judgeFrame (s : State) (l : Link) (kind : Byte) (payload crc : List Byte) : State :=
  if crc = crcField kind payload then
    match Link.port? l with
    | some p => (s.setRx l .hunting).acceptFrame p kind payload
    | none => (s.setRx l .hunting).acceptPumpFrame kind payload
  else s.discardFrame l .addCrc

/-- The receiver stands inside a frame: the gap timer runs from its start at this byte (R171). -/
def Receiver.inside (state : RxState) : Receiver := { state := state, gapTimer := some gapTime }

/-- A byte arrives on a link (R171). -/
def State.receiveByte (s : State) (l : Link) (b : Byte) : State :=
  match (s.rx l).state with
  | .hunt => if b = syncByte then s.setRx l (.inside (.header none)) else s
  | .header none => s.setRx l (.inside (.header (some b)))
  | .header (some kind) =>
    if maxPayload < b.toNat then s.discardFrame l .addCrc
    else if b.toNat = 0 then s.setRx l (.inside (.check kind [] none))
    else s.setRx l (.inside (.payload kind b.toNat []))
  | .payload kind len got =>
    if got.length + 1 < len then s.setRx l (.inside (.payload kind len (got ++ [b])))
    else s.setRx l (.inside (.check kind (got ++ [b]) none))
  | .check kind got none => s.setRx l (.inside (.check kind got (some b)))
  | .check kind got (some high) => s.judgeFrame l kind got [high, b]

/-- The gap timer of a link expires inside a frame (R171). -/
def State.gapExpiry (s : State) (l : Link) : State :=
  if Timer.due (s.rx l).gapTimer then s.discardFrame l .addGap else s

/-- The frame at the front of a transmit order has been sent (R169). -/
def State.frameSent (s : State) (l : Link) : State := s.modTx l List.tail

/-- The refusal of a frame that fails a check of R172; a frame that passes both is not refused. -/
def State.refuseFrame (s : State) (p : Port) (kind : Byte) (payload : List Byte) : State :=
  match frameVerdict p kind payload with
  | some result => s.refuse p kind.toNat result
  | none => s

/-! ## STATUS -/

/-- The codes of lane states (R175). -/
def laneStateCode : LaneState → Nat
  | .closed => 0
  | .ready => 1
  | .piercing .ramp => 2
  | .piercing .opened => 3
  | .piercing .dwell => 4
  | .cutting => 5
  | .openIdle => 6
  | .stopping => 7
  | .traversing => 8
  | .fault => 9
  | .mirrored => 10

/-- The code of a loss reason (R175). -/
def lossReasonCode : Option LossReason → Nat
  | none => 0
  | some .timeout => 1
  | some .stopped => 2
  | some .tripped => 3
  | some .badStatus => 4

/-- The code of the last reported status (R175). -/
def pumpStatusCode : Option PumpStatus → Nat
  | none => 0
  | some .running => 1
  | some .stopped => 2
  | some .tripped => 3
  | some .badStatus => 4

/-- `n` bytes of free value behind the `used` ones (log entry 1). -/
def freeBytes (used n : Nat) : List Byte := (List.range n).map fun k => Config.freeByte (used + k)

/-- How many bytes of free value one STATUS sets aside (log entry 1). -/
def statusFree : Nat := 5

/-- The bytes 4 to 6 of a head STATUS (R177): what is released; free while nothing is. -/
def releasedBytes (used : Nat) : Released → List Byte
  | .none => freeBytes used 3
  | .segment e => beBytes 2 e.segId ++ [byte (segmentKindCode e.seg)]
  | .repierce segId _ => beBytes 2 segId ++ [byte repierceCode]

/-- The bytes 7 and 8 of a head STATUS (R177): the last accepted seg_id; free while there is none. -/
def lastSegIdBytes (used : Nat) : Option Nat → List Byte
  | some n => beBytes 2 n
  | none => freeBytes used 2

/-- The body of a head port's STATUS (R62, R177); a flag of what is absent is clear (log entry 23), and the bits of the
flag byte to which R177 gives no meaning are 0 (DESIGN CHOICE, log entry 28). -/
def State.headStatus (s : State) (L : Lane) : List Byte :=
  let u := s.lane L
  let q := u.seq
  [byte (laneStateCode q.state),
    byte (flagBits [q.nextPending, q.postedJet, q.repierceFlag, q.repierceKind == some .kerf, q.released != .none,
      q.lastSegId.isSome]),
    byte (waitReasonCode q.wait),
    byte ((q.faultCause.map faultCauseCode).getD 0)] ++
    releasedBytes s.freeUsed q.released ++ lastSegIdBytes (s.freeUsed + 3) q.lastSegId ++
    beBytes 2 u.queue.entries.length ++ [byte u.fifo.length]

/-- The flag bits of a pierce-queue entry in STATUS (R177); the bits above are 0 (DESIGN CHOICE, log entry 28). -/
def pierceEntryFlags (e : PierceEntry) : Nat := flagBits [e.lane == .B, e.kind == .kerf, e.waitTimer.isNone]

/-- An entry of the pierce queue in STATUS (R177). -/
def pierceEntryBytes (e : PierceEntry) : List Byte := byte (pierceEntryFlags e) :: beBytes 2 e.pressure

/-- The bytes 4 to 9 of port C's STATUS (R177): a missing second entry is sent as 0, a missing head entry is free. -/
def pierceQueueBytes (used : Nat) : List PierceEntry → List Byte
  | [] => freeBytes used 3 ++ [0, 0, 0]
  | [e] => pierceEntryBytes e ++ [0, 0, 0]
  | e :: d :: _ => pierceEntryBytes e ++ pierceEntryBytes d

/-- Byte 1 of port C's STATUS (R177): the holder's kind is clear where no lane holds the grant (log entry 23), and the bits
to which R177 gives no meaning are 0 (DESIGN CHOICE, log entry 28). -/
def holderByte (holder : Option Holder) (waiting : Nat) : Byte :=
  byte ((match holder with
    | none => 0
    | some h => (if h.lane = .A then 1 else 2) + 4 * flagNat (h.kind == .kerf)) + 16 * (waiting % 4))

/-- The device part of port C's STATUS (R110, R131, R177); bit 7 of its flag byte, to which R177 gives no meaning, is 0
(DESIGN CHOICE, log entry 28). -/
def State.deviceStatus (s : State) : List Byte :=
  let m := s.monitor
  [byte (flagBits [s.mirror, s.inhibit, m.lastRun, m.lost, m.locked, m.settleTimer.isSome, m.alarm]),
    holderByte s.arbiter.holder s.arbiter.queue.length] ++
    beBytes 2 ((s.arbiter.holder.map Holder.pressure).getD 0) ++ pierceQueueBytes s.freeUsed s.arbiter.queue ++
    beBytes 2 s.arbiter.target ++ beBytes 2 m.ramped ++ beBytes 2 m.filtered ++
    [byte (m.history.length % 16 + 16 * lossReasonCode m.lossReason), byte (pumpStatusCode m.lastStatus)] ++
    beBytes 2 (m.lastRipple.getD 65535) ++ [0]

/-- The code of the grace timer in STATUS (R177); a grace that expires at the tick in progress is expired. -/
def graceCode : Grace → Nat
  | .stopped => 0
  | .running _ => 1
  | .expiring => 2
  | .expired => 2

/-- The summary of a lane in port C's STATUS (R144, R161, R177); the last window count is free while there is none. -/
def State.laneSummary (s : State) (L : Lane) (used : Nat) : List Byte :=
  let u := s.lane L
  [byte (laneStateCode u.seq.state)] ++ beBytes 2 u.gov.current ++ beBytes 2 u.gov.lastSent ++
    [byte (flagBits [u.gov.starved, u.gov.starvationTimer.isSome, u.gen.running, u.filter.accepted == .high, false,
        u.mon.lastWindow.isSome] + 64 * graceCode u.mon.grace),
      byte u.gen.level, byte (u.gen.pendingLevel.getD 0), byte (u.gen.slot % 16 + 16 * u.mon.badCount),
      byte u.mon.goodCount, byte u.mon.edgeCount] ++
    (match u.mon.lastWindow with
      | some n => [byte n]
      | none => freeBytes used 1)

/-- The body of a STATUS on a port (R177). -/
def State.statusBody (s : State) : Port → List Byte
  | .A => s.headStatus .A
  | .B => s.headStatus .B
  | .C => s.deviceStatus ++ s.laneSummary .A (s.freeUsed + 3) ++ s.laneSummary .B (s.freeUsed + 4)

/-- STATUS, handed on (R62, R110, R131, R144, R161): answered OK with the state as it stands; it changes nothing of the
part. -/
def State.takeStatus (s : State) (p : Port) : State :=
  { s.reply p kindStatus .ok (s.statusBody p) with freeUsed := s.freeUsed + statusFree }

/-! ## CLEAR, MASK and ROUTE -/

/-- A mask names an event its port does not define (R182, R183). -/
def outsideEvents (p : Port) (events : BitVec 32) : Bool := events &&& ~~~(definedEvents p) != 0

/-- CLEAR, handed on (R182). -/
def State.takeClear (s : State) (p : Port) (events : BitVec 32) : State :=
  if outsideEvents p events then s.refuse p kindClear .badField
  else (s.modEvents p fun u => { u with pending := u.pending &&& ~~~events }).reply p kindClear .ok []

/-- MASK, handed on (R183). -/
def State.takeMask (s : State) (p : Port) (events : BitVec 32) : State :=
  if outsideEvents p events then s.refuse p kindMask .badField
  else (s.modEvents p fun u => { u with enable := events }).reply p kindMask .ok []

/-- ROUTE, handed on (R183): all sixteen bits of a route mask are defined (R180). -/
def State.takeRoute (s : State) (events : BitVec 16) : State :=
  ({ s with route := events } : State).reply .C kindRoute .ok []

/-! ## COUNTER_READ -/

/-- The counters of a lane in reply order (R191). -/
def LaneCounters.values (c : LaneCounters) : List Nat :=
  [c.segmentsDone, c.segmentsEndedOther, c.pierces, c.cutLength, c.valveOpenMs, c.abrasiveSteps, c.faults,
    c.starvationDwells, c.completionsLost]

/-- The counters of a port in reply order (R191). -/
def PortCounters.values (c : PortCounters) : List Nat := [c.framesOk, c.framesCrc, c.framesGap, c.requestsRefused]

/-- The pump counters in reply order (R191). -/
def PumpCounters.values (c : PumpCounters) : List Nat := [c.samplesBad, c.lossEvents, c.rippleAlarms]

/-- The counters of a group (R192). -/
def State.groupValues (s : State) : Nat → List Nat
  | 0 => s.laneA.counters.values
  | 1 => s.laneB.counters.values
  | 2 => s.portA.counters.values
  | 3 => s.portB.counters.values
  | 4 => s.portC.counters.values
  | _ => s.pumpCounters.values

/-- Every counter of a group is set to 0 (R192). -/
def State.clearGroup (s : State) : Nat → State
  | 0 => s.countLane .A fun _ => .zero
  | 1 => s.countLane .B fun _ => .zero
  | 2 => s.countPort .A fun _ => .zero
  | 3 => s.countPort .B fun _ => .zero
  | 4 => s.countPort .C fun _ => .zero
  | _ => s.countPump fun _ => .zero

/-- The groups a port may read (R192 check 2). -/
def groupAllowed : Port → Nat → Bool
  | .A, g => g == 0 || g == 2
  | .B, g => g == 1 || g == 3
  | .C, _ => true

/-- The body of an OK reply to COUNTER_READ (R192). -/
def counterBody (group : Nat) (values : List Nat) : List Byte :=
  byte group :: byte values.length :: values.flatMap (beBytes 4)

/-- COUNTER_READ, handed on (R192): the reply holds the values; with the clear flag the group is then set to 0. -/
def State.takeCounterRead (s : State) (p : Port) (group flag : Nat) : State :=
  if !within 0 5 group || !within 0 1 flag then s.refuse p kindCounterRead .badField
  else if !groupAllowed p group then s.refuse p kindCounterRead .badField
  else
    let read := s.reply p kindCounterRead .ok (counterBody group (s.groupValues group))
    if flag = 1 then read.clearGroup group else read

/-! ## The commands -/

/-- STATUS (R62). -/
def execStatus (p : Port) (s : State) : Host.Outcome State Fault Refusal :=
  .next (s.handOn p (.status p) fun s => s.takeStatus p)

/-- CLEAR (R182). -/
def execClear (p : Port) (events : BitVec 32) (s : State) : Host.Outcome State Fault Refusal :=
  .next (s.handOn p (.clear p events) fun s => s.takeClear p events)

/-- MASK (R183). -/
def execMask (p : Port) (events : BitVec 32) (s : State) : Host.Outcome State Fault Refusal :=
  .next (s.handOn p (.mask p events) fun s => s.takeMask p events)

/-- ROUTE (R183). -/
def execRoute (events : BitVec 16) (s : State) : Host.Outcome State Fault Refusal :=
  .next (s.handOn .C (.route events) fun s => s.takeRoute events)

/-- COUNTER_READ without clear-after-read (R192), or with a clear flag that the request does not define (log entry 8). -/
def execCounterRead (p : Port) (group flag : Nat) (s : State) : Host.Outcome State Fault Refusal :=
  .next (s.handOn p (.counterRead p group flag) fun s => s.takeCounterRead p group flag)

/-- COUNTER_READ with clear-after-read (R192). -/
def execCounterReadClear (p : Port) (group : Nat) (s : State) : Host.Outcome State Fault Refusal :=
  .next (s.handOn p (.counterReadClear p group) fun s => s.takeCounterRead p group 1)

/-- FRAME_REFUSED (R172, log entry 12). -/
def execFrameRefused (p : Port) (kind : Byte) (payload : List Byte) (s : State) : Host.Outcome State Fault Refusal :=
  .next (s.handOn p (.frameRefused p kind payload) fun s => s.refuseFrame p kind payload)

/-- FRAME_CRC_DISCARD (R171): a complete frame whose CRC does not match (log entry 12). -/
def execFrameCrcDiscard (l : Link) (s : State) : Host.Outcome State Fault Refusal :=
  .next (s.unlessHeld fun s => s.discardFrame l .addCrc)

/-- GAP_TIMER_EXPIRY (R171). -/
def execGapTimerExpiry (l : Link) (s : State) : Host.Outcome State Fault Refusal :=
  .next (s.unlessHeld fun s => s.gapExpiry l)

/-- LINK_BYTE_RECEIVED (R171). -/
def execLinkByteReceived (l : Link) (b : Byte) (s : State) : Host.Outcome State Fault Refusal :=
  .next (s.unlessHeld fun s => s.receiveByte l b)

/-- FRAME_SENT (R169). -/
def execFrameSent (l : Link) (s : State) : Host.Outcome State Fault Refusal :=
  .next (s.unlessHeld fun s => s.frameSent l)

end Sys2Proof.Machine
end

