-- ==== Sys2Proof/Machine/Tables.lean ====
section
/-! DEFINITION. TABLE_WRITE and TABLE_READ (R3, R4, R9 to R11, R27, R42 to R44, R187 to R190). -/

namespace Sys2Proof.Machine

/-- A recipe is in use (R5): a lane has a job open with it. -/
def State.recipeInUse (s : State) (n : Nat) : Bool :=
  [Lane.A, Lane.B].any fun L => s.jobOpen L && (s.lane L).seq.recipe == some n

/-- A TABLE_WRITE is refused (R173). -/
def State.refuseWrite (s : State) (result : Result) : State := s.refuse .C kindTableWrite result

/-- A TABLE_WRITE is taken: the configuration it leaves, and the OK reply without a body (R190). -/
def State.takeWrite (s : State) (config : ConfigStore) : State :=
  ({ s with config := config } : State).reply .C kindTableWrite .ok []

/-- The largest index of a recipe and of an element (R189). -/
def recipeMax : Nat := 31
def elementMax : Nat := 47

/-- TABLE_WRITE of a recipe, handed on: the checks of R3. -/
def State.writeRecipe (s : State) (index : Nat) (m : RecipeImage) : State :=
  if recipeMax < index then s.refuseWrite .badField
  else if s.recipeInUse index then s.refuseWrite .inUse
  else if !recipeInRange m then s.refuseWrite .badField
  else s.takeWrite { s.config with recipes := s.config.recipes.set index (recipeOf m) }

/-- TABLE_WRITE of a selection list element, handed on: the checks of R9. -/
def State.writeElement (s : State) (index : Nat) (m : ElementImage) : State :=
  if elementMax < index then s.refuseWrite .badField
  else if s.anyJobOpen then s.refuseWrite .inUse
  else if !elementInRange m then s.refuseWrite .badField
  else if !elementOrdered m then s.refuseWrite .tableOrder
  else s.takeWrite { s.config with elements := s.config.elements.set index (elementOf m) }

/-- TABLE_WRITE of the selection list control, handed on: the index (R189) and the checks of R10. -/
def State.writeControl (s : State) (index : Nat) (m : ControlImage) : State :=
  if 0 < index then s.refuseWrite .badField
  else if s.anyJobOpen then s.refuseWrite .inUse
  else if !controlInRange m then s.refuseWrite .badField
  else s.takeWrite { s.config with control := controlOf m }

/-- The item code is defined (R189 check 1). -/
def FactorItem.isDefined : FactorItem → Bool
  | .undefined _ => false
  | _ => true

/-- TABLE_WRITE of a factor table or the quality map, handed on: the item code (R189), the number of values (judged by the
port, R189, log entry 13), the index (R189), and then IN_USE and the checks of R27. -/
def State.writeFactorTable (s : State) (item : FactorItem) (index : Nat) (values : List Nat) : State :=
  if !FactorItem.isDefined item then s.refuseWrite .badField
  else if values.length ≠ factorCount item then s.refuseWrite .badLength
  else if 0 < index then s.refuseWrite .badField
  else if s.anyJobOpen then s.refuseWrite .inUse
  else if !factorInRange item values then s.refuseWrite .badField
  else if !factorOrdered item values then s.refuseWrite .tableOrder
  else s.takeWrite { s.config with tables := s.config.tables.replace item values }

/-- A completion FIFO under a taken partition write (R43): one whose region is unchanged keeps its records; another is
emptied, its records counted as lost, and COMPLETION_LOST raised when there was one. -/
def State.moveFifo (s : State) (L : Lane) (before after : Region) : State :=
  if before = after then s
  else
    let discarded := (s.lane L).fifo.length
    let emptied := (s.modLane L fun u => { u with fifo := [] }).countLane L (.addLost discarded)
    if 0 < discarded then emptied.raiseHead L .completionLost else emptied

/-- What a taken partition write does (R42, R43). -/
def State.repartition (s : State) (p : Partition) : State :=
  let old := s.config.partition
  let written := s.takeWrite { s.config with partition := p }
  (((written.emptyQueue .A).emptyQueue .B).moveFifo .A old.fifoA p.fifoA).moveFifo .B old.fifoB p.fifoB

/-- TABLE_WRITE of the partition, handed on: the index (R189) and the checks of R42. -/
def State.writePartition (s : State) (index : Nat) (m : PartitionImage) : State :=
  if 0 < index then s.refuseWrite .badField
  else if s.anyJobOpen then s.refuseWrite .inUse
  else if !partitionInRange m then s.refuseWrite .badField
  else if !regionsApart m.queueA m.queueB m.fifoA m.fifoB then s.refuseWrite .overlap
  else s.repartition (partitionOf m)

/-- TABLE_WRITE of the timing parameters, handed on: the index (R189) and the checks of R187. -/
def State.writeTiming (s : State) (index : Nat) (m : TimingImage) : State :=
  if 0 < index then s.refuseWrite .badField
  else if s.anyJobOpen then s.refuseWrite .inUse
  else if !timingInRange m then s.refuseWrite .badField
  else if !decide (m.deassertThreshold < m.assertThreshold) then s.refuseWrite .badField
  else s.takeWrite { s.config with timing := timingOf m }

/-- An item is read (R188, R190): the item code, the index, and its values as they stand. -/
def State.answerRead (s : State) (item index : Nat) (widths values : List Nat) : State :=
  s.reply .C kindTableRead .ok (byte item :: byte index :: joinFields widths values)

/-- A TABLE_READ is refused BAD_FIELD (R189). -/
def State.refuseRead (s : State) : State := s.refuse .C kindTableRead .badField

/-- TABLE_READ of a recipe, handed on (R4, R190). -/
def State.readRecipe (s : State) (index : Nat) : State :=
  if recipeMax < index then s.refuseRead
  else s.answerRead itemRecipe index recipeWidths (recipeValues (recipeImage (s.config.recipes.getD index .powerOn)))

/-- TABLE_READ of a selection list element or the control, handed on (R11, R190). -/
def State.readSelection (s : State) (item : SelectionItem) (index : Nat) : State :=
  match item with
  | .element =>
    if elementMax < index then s.refuseRead
    else
      s.answerRead itemElement index elementWidths
        (elementValues (elementImage (s.config.elements.getD index .powerOn)))
  | .control =>
    if 0 < index then s.refuseRead
    else s.answerRead itemControl index controlWidths (controlValues (controlImage s.config.control))

/-- TABLE_READ of a factor table or the quality map, handed on (R27, R190). -/
def State.readFactorTable (s : State) (item : FactorItem) (index : Nat) : State :=
  if !FactorItem.isDefined item then s.refuseRead
  else if 0 < index then s.refuseRead
  else s.answerRead (factorCode item) index (factorWidths item) (s.config.tables.values item)

/-- TABLE_READ of the partition, handed on (R44, R190). -/
def State.readPartition (s : State) (index : Nat) : State :=
  if 0 < index then s.refuseRead
  else s.answerRead itemPartition index partitionWidths (partitionValues (partitionImage s.config.partition))

/-- TABLE_READ of the timing parameters, handed on (R190). -/
def State.readTiming (s : State) (index : Nat) : State :=
  if 0 < index then s.refuseRead
  else s.answerRead itemTiming index timingWidths (timingValues (timingImage s.config.timing))

/-- TABLE_WRITE_RECIPE (R3). -/
def execTableWriteRecipe (index : Nat) (m : RecipeImage) (s : State) : Host.Outcome State Fault Refusal :=
  .next (s.handOn .C (.tableWriteRecipe index m) fun s => s.writeRecipe index m)

/-- TABLE_WRITE_ELEMENT (R9). -/
def execTableWriteElement (index : Nat) (m : ElementImage) (s : State) : Host.Outcome State Fault Refusal :=
  .next (s.handOn .C (.tableWriteElement index m) fun s => s.writeElement index m)

/-- TABLE_WRITE_CONTROL (R10). -/
def execTableWriteControl (index : Nat) (m : ControlImage) (s : State) : Host.Outcome State Fault Refusal :=
  .next (s.handOn .C (.tableWriteControl index m) fun s => s.writeControl index m)

/-- TABLE_WRITE_FACTOR_TABLE (R27). -/
def execTableWriteFactorTable (item : FactorItem) (index : Nat) (values : List Nat) (s : State) :
    Host.Outcome State Fault Refusal :=
  .next (s.handOn .C (.tableWriteFactorTable item index values) fun s => s.writeFactorTable item index values)

/-- TABLE_WRITE_PARTITION (R42). -/
def execTableWritePartition (index : Nat) (m : PartitionImage) (s : State) : Host.Outcome State Fault Refusal :=
  .next (s.handOn .C (.tableWritePartition index m) fun s => s.writePartition index m)

/-- TABLE_WRITE_TIMING (R187). -/
def execTableWriteTiming (index : Nat) (m : TimingImage) (s : State) : Host.Outcome State Fault Refusal :=
  .next (s.handOn .C (.tableWriteTiming index m) fun s => s.writeTiming index m)

/-- TABLE_READ_RECIPE (R4). -/
def execTableReadRecipe (index : Nat) (s : State) : Host.Outcome State Fault Refusal :=
  .next (s.handOn .C (.tableReadRecipe index) fun s => s.readRecipe index)

/-- TABLE_READ_SELECTION (R11). -/
def execTableReadSelection (item : SelectionItem) (index : Nat) (s : State) : Host.Outcome State Fault Refusal :=
  .next (s.handOn .C (.tableReadSelection item index) fun s => s.readSelection item index)

/-- TABLE_READ_FACTOR_TABLE (R27). -/
def execTableReadFactorTable (item : FactorItem) (index : Nat) (s : State) : Host.Outcome State Fault Refusal :=
  .next (s.handOn .C (.tableReadFactorTable item index) fun s => s.readFactorTable item index)

/-- TABLE_READ_PARTITION (R44). -/
def execTableReadPartition (index : Nat) (s : State) : Host.Outcome State Fault Refusal :=
  .next (s.handOn .C (.tableReadPartition index) fun s => s.readPartition index)

/-- TABLE_READ_TIMING (R190). -/
def execTableReadTiming (index : Nat) (s : State) : Host.Outcome State Fault Refusal :=
  .next (s.handOn .C (.tableReadTiming index) fun s => s.readTiming index)

end Sys2Proof.Machine
end

