-- ==== Sys2Proof/Machine/Device.lean ====
section
/-! DEFINITION. The device commands MODE and RESET, the reset input and power-on (chapters 9 and 11), and the timebase
(R59). -/

namespace Sys2Proof.Machine

/-! ## MODE -/

/-- A taken MODE(mirror on) that changes the mode (R163). -/
def State.mirrorOn (s : State) : State :=
  ((({ s with mirror := true } : State).emptyQueue .B).modLane .B fun u =>
    { u with seq := { Sequencer.reset with state := .mirrored }, fifo := [], gen := s.laneA.gen }).conclude

/-- A taken MODE(mirror off) that changes the mode (R164). -/
def State.mirrorOff (s : State) : State :=
  ((({ s with mirror := false } : State).stopUnit .B).modSeq .B fun _ => .reset).conclude

/-- MODE, handed on: the checks of R163 in their order. A mode already in force changes nothing. -/
def State.takeMode (s : State) (mode : Nat) : State :=
  match mode with
  | 0 =>
    if s.laneState .A ≠ .closed then s.refuse .C kindMode .jobActive
    else
      let replied := s.reply .C kindMode .ok []
      if s.mirror then replied.mirrorOff else replied
  | 1 =>
    if s.laneState .A ≠ .closed ∨ (s.laneState .B ≠ .closed ∧ s.laneState .B ≠ .mirrored) then
      s.refuse .C kindMode .jobActive
    else
      let replied := s.reply .C kindMode .ok []
      if s.mirror then replied else replied.mirrorOn
  | _ => s.refuse .C kindMode .badField

/-! ## RESET, the reset input and power-on -/

/-- A lane at the RESET request (R52, R58, R90, R132, R146): the flow filter, the last window count and the counters are
kept. -/
def LaneUnit.restart (region : Region) (u : LaneUnit) : LaneUnit :=
  { u with
    seq := .reset, queue := .emptied region, fifo := [], gov := .reset, gen := .stopped, mon := u.mon.stop }

/-- Every event unit and the route mask at a reset (R184). -/
def State.resetEvents (s : State) : State :=
  { (((s.modEvents .A fun _ => .reset .A).modEvents .B fun _ => .reset .B).modEvents .C fun _ => .reset .C) with
    route := routeReset }

/-- What the RESET request does behind its reply (R193). -/
def State.restart (s : State) : State :=
  let lanes := ((s.modLane .A (.restart (s.queueRegion .A))).modLane .B (.restart (s.queueRegion .B))).modArbiter
    fun a => { a with queue := [], holder := none }
  { (lanes.setTarget 0).resetEvents with mirror := false, timestamp := 0 }

/-- RESET, handed on (R193): the OK reply is placed first. -/
def State.takeReset (s : State) : State := (s.reply .C kindReset .ok []).restart.closeTick

/-- The state in which every block starts, the levels at the inputs as they stand (R194). -/
def State.startOver (s : State) : State :=
  State.started s.inhibitInput s.laneA.filter.input s.laneB.filter.input s.pending s.freeUsed

/-- The reset input asserts (R194): the part is at rest, its transmit orders and waiting requests emptied, until the
release starts it (log entry 10). -/
def State.holdAtRest (s : State) : State := { s.startOver with resetInput := true }

/-! ## The timebase -/

/-- The expiries that have come due at the last tick and are not yet taken are taken before the next tick, in this order
(log entry 2). -/
def State.takeDue (s : State) : State :=
  let links := (((s.gapExpiry .A).gapExpiry .B).gapExpiry .C).gapExpiry .pump
  let pump := links.lossExpiry.settleExpiry
  let eachLane (t : State) (expiry : State → Lane → State) : State := expiry (expiry t .A) .B
  let lanes :=
    [State.lockTimeoutExpiry, State.leadExpiry, State.dwellExpiry, State.stallExpiry, State.purgeExpiry,
      State.starvationExpiry, State.pierceWaitExpiry, State.slotExpiry, State.filterExpiry, State.graceExpiry,
      State.windowExpiry].foldl eachLane pump
  lanes.evaluation

/-- The timers of a lane sequencer and its elapsed count at a tick (R59, R61). -/
def Sequencer.tick (q : Sequencer) : Sequencer :=
  { q with
    lockTimer := q.lockTimer.tick, leadTimer := q.leadTimer.tick, dwellTimer := q.dwellTimer.tick,
    stallTimer := q.stallTimer.tick, purgeTimer := q.purgeTimer.tick,
    elapsed := q.elapsed.map fun n => min shortMax (n + 1) }

/-- The timers of a lane at a tick (R59). -/
def LaneUnit.tick (u : LaneUnit) : LaneUnit :=
  { u with
    seq := u.seq.tick
    gov := { u.gov with starvationTimer := u.gov.starvationTimer.tick }
    gen := { u.gen with slotTimer := u.gen.slotTimer.tick }
    mon := { u.mon with windowTimer := u.mon.windowTimer.tick, grace := u.mon.grace.tick }
    filter := { u.filter with timer := u.filter.timer.tick } }

/-- The gap timer of a receiver at a tick (R59, R171). -/
def Receiver.tick (r : Receiver) : Receiver := { r with gapTimer := r.gapTimer.tick }

/-- Every timer of the part counts a tick (R59). -/
def State.tickTimers (s : State) : State :=
  { s with
    laneA := s.laneA.tick
    laneB := s.laneB.tick
    arbiter := { s.arbiter with queue := s.arbiter.queue.map fun e => { e with waitTimer := e.waitTimer.tick } }
    monitor :=
      { s.monitor with lossTimer := s.monitor.lossTimer.tick, settleTimer := s.monitor.settleTimer.tick }
    portA := { s.portA with rx := s.portA.rx.tick }
    portB := { s.portB with rx := s.portB.rx.tick }
    portC := { s.portC with rx := s.portC.rx.tick }
    pumpRx := s.pumpRx.tick }

/-- The largest timestamp (R59). -/
def timestampMax : Nat := 65535

/-- The timestamp counts a tick (R59): past its largest value it returns to 0 and TIME_WRAP is raised. -/
def State.tickTimestamp (s : State) : State :=
  if s.timestamp < timestampMax then { s with timestamp := s.timestamp + 1 }
  else ({ s with timestamp := 0 } : State).raiseCell .timeWrap

/-- The number of ticks from one evaluation tick to the next (R133). -/
def governorPeriod : Nat := 10

/-- The governor period count steps; where it returns to 0 an evaluation is due (R133). -/
def State.tickPeriod (s : State) : State :=
  let next := (s.period + 1) % governorPeriod
  { s with period := next, evaluationDue := next == 0 }

/-- A tick of the timebase (R59, R89, R116, R133): the expiries of the tick before that are still to be taken and what is
left to count of that tick, then the timers, the timestamp, the governor period, and the ramp step with its SETPOINT (log
entry 16). The tick is counted in VALVE_OPEN_MS at once, or, where an expiry due at it can move a valve, once such
expiries are taken: it counts at the tick whose expiry opens the valve and not at the tick whose expiry closes it, as the
ticks from 1230 to 2779 of 9.4. -/
def State.tick (s : State) : State :=
  let ticked := s.takeDue.countTick.tickTimers.tickTimestamp.tickPeriod.rampTick
  ({ ticked with valveDue := true } : State).closeTick

/-- TIMESTAMP_WRAP (R59): the tick that would take the timestamp past its largest value; at any other timestamp no wrap
comes. -/
def State.wrapTick (s : State) : State := if s.timestamp = timestampMax then s.tick else s

/-! ## The commands -/

/-- MODE_MIRROR_ON (R163): a MODE whose mode field is not 0 (log entry 8). -/
def execModeMirrorOn (mode : Nat) (s : State) : Host.Outcome State Fault Refusal :=
  .next (s.handOn .C (.modeMirrorOn mode) fun s => s.takeMode mode)

/-- MODE_MIRROR_OFF (R164). -/
def execModeMirrorOff (s : State) : Host.Outcome State Fault Refusal :=
  .next (s.handOn .C .modeMirrorOff fun s => s.takeMode 0)

/-- RESET (R193). -/
def execReset (s : State) : Host.Outcome State Fault Refusal :=
  .next (s.handOn .C .reset State.takeReset)

/-- RESET_INPUT_ASSERT (R194). -/
def execResetInputAssert (s : State) : Host.Outcome State Fault Refusal := .next s.holdAtRest

/-- POWER_ON (R194): the end of power-up or the release of the reset input. -/
def execPowerOn (s : State) : Host.Outcome State Fault Refusal := .next s.startOver

/-- TIMEBASE_TICK (R59). -/
def execTimebaseTick (s : State) : Host.Outcome State Fault Refusal := .next (s.unlessHeld State.tick)

/-- TIMESTAMP_WRAP (R59, log entry 17). -/
def execTimestampWrap (s : State) : Host.Outcome State Fault Refusal := .next (s.unlessHeld State.wrapTick)

end Sys2Proof.Machine
end

