-- ==== Sys2Proof/Machine/Dispatch.lean ====
section
/-! DEFINITION. Each command and the meaning it has. -/

namespace Sys2Proof.Machine

def exec (i : Instr) (s : State) : Host.Outcome State Fault Refusal :=
  match i with
  | .jobOpen lane material thickness => Sys2Proof.Machine.execJobOpen lane material thickness s
  | .jobClose lane => Sys2Proof.Machine.execJobClose lane s
  | .post lane segId body => Sys2Proof.Machine.execPost lane segId body s
  | .next lane => Sys2Proof.Machine.execNext lane s
  | .releaseAttempt lane => Sys2Proof.Machine.execReleaseAttempt lane s
  | .pierceGrant => Sys2Proof.Machine.execPierceGrant s
  | .done lane segId => Sys2Proof.Machine.execDone lane segId s
  | .resume lane => Sys2Proof.Machine.execResume lane s
  | .abort source => Sys2Proof.Machine.execAbort source s
  | .complRead lane n => Sys2Proof.Machine.execComplRead lane n s
  | .status port => Sys2Proof.Machine.execStatus port s
  | .clear port events => Sys2Proof.Machine.execClear port events s
  | .mask port events => Sys2Proof.Machine.execMask port events s
  | .route events => Sys2Proof.Machine.execRoute events s
  | .counterRead port group flag => Sys2Proof.Machine.execCounterRead port group flag s
  | .counterReadClear port group => Sys2Proof.Machine.execCounterReadClear port group s
  | .tableWriteRecipe index image => Sys2Proof.Machine.execTableWriteRecipe index image s
  | .tableWriteElement index image => Sys2Proof.Machine.execTableWriteElement index image s
  | .tableWriteControl index image => Sys2Proof.Machine.execTableWriteControl index image s
  | .tableWriteFactorTable item index values => Sys2Proof.Machine.execTableWriteFactorTable item index values s
  | .tableWritePartition index image => Sys2Proof.Machine.execTableWritePartition index image s
  | .tableWriteTiming index image => Sys2Proof.Machine.execTableWriteTiming index image s
  | .tableReadRecipe index => Sys2Proof.Machine.execTableReadRecipe index s
  | .tableReadSelection item index => Sys2Proof.Machine.execTableReadSelection item index s
  | .tableReadFactorTable item index => Sys2Proof.Machine.execTableReadFactorTable item index s
  | .tableReadPartition index => Sys2Proof.Machine.execTableReadPartition index s
  | .tableReadTiming index => Sys2Proof.Machine.execTableReadTiming index s
  | .modeMirrorOn mode => Sys2Proof.Machine.execModeMirrorOn mode s
  | .modeMirrorOff => Sys2Proof.Machine.execModeMirrorOff s
  | .reset => Sys2Proof.Machine.execReset s
  | .frameRefused port kind payload => Sys2Proof.Machine.execFrameRefused port kind payload s
  | .frameCrcDiscard link => Sys2Proof.Machine.execFrameCrcDiscard link s
  | .gapTimerExpiry link => Sys2Proof.Machine.execGapTimerExpiry link s
  | .feedback pressure status => Sys2Proof.Machine.execFeedback pressure status s
  | .lossTimerExpiry => Sys2Proof.Machine.execLossTimerExpiry s
  | .settleTimerExpiry => Sys2Proof.Machine.execSettleTimerExpiry s
  | .rippleWindowComplete pressure => Sys2Proof.Machine.execRippleWindowComplete pressure s
  | .timebaseTick => Sys2Proof.Machine.execTimebaseTick s
  | .timestampWrap => Sys2Proof.Machine.execTimestampWrap s
  | .governorEvaluation => Sys2Proof.Machine.execGovernorEvaluation s
  | .starvationTimerExpiry lane => Sys2Proof.Machine.execStarvationTimerExpiry lane s
  | .lockTimeoutExpiry lane => Sys2Proof.Machine.execLockTimeoutExpiry lane s
  | .abrasiveLeadExpiry lane => Sys2Proof.Machine.execAbrasiveLeadExpiry lane s
  | .dwellExpiry lane => Sys2Proof.Machine.execDwellExpiry lane s
  | .stallExpiry lane => Sys2Proof.Machine.execStallExpiry lane s
  | .purgeExpiry lane => Sys2Proof.Machine.execPurgeExpiry lane s
  | .pierceWaitTimerExpiry lane => Sys2Proof.Machine.execPierceWaitTimerExpiry lane s
  | .slotTimerExpiry lane => Sys2Proof.Machine.execSlotTimerExpiry lane s
  | .flowInputChange lane level => Sys2Proof.Machine.execFlowInputChange lane level s
  | .flowFilterExpiry lane => Sys2Proof.Machine.execFlowFilterExpiry lane s
  | .windowTimerExpiry lane => Sys2Proof.Machine.execWindowTimerExpiry lane s
  | .graceTimerExpiry lane => Sys2Proof.Machine.execGraceTimerExpiry lane s
  | .inhibitAssert => Sys2Proof.Machine.execInhibitAssert s
  | .inhibitRelease => Sys2Proof.Machine.execInhibitRelease s
  | .resetInputAssert => Sys2Proof.Machine.execResetInputAssert s
  | .powerOn => Sys2Proof.Machine.execPowerOn s
  | .linkByteReceived link byte => Sys2Proof.Machine.execLinkByteReceived link byte s
  | .frameSent link => Sys2Proof.Machine.execFrameSent link s

end Sys2Proof.Machine
end

