-- ==== Sys2Proof/Safety.lean ====
section
/-! DEFINITION. What a safe part is: the invariants of the manual, in the terms the statements use, and the words in which
statements about single commands are made. -/

namespace Sys2Proof.Machine

/-! ## Words for statements about commands -/

/-- The command is the next one its port hands on (R172): the part is not held at rest, and no other completed request
waits before it. -/
def State.hands (s : State) (p : Port) (c : Instr) : Bool :=
  !s.resetInput && ((s.port p).line.isEmpty || (s.port p).line.head? == some c)

/-- A port's unit after a request left its waiting ones and a reply joined its transmit order; a refused reply is
counted. -/
def PortUnit.answered (u : PortUnit) (kind : Nat) (result : Result) (body : List Byte) : PortUnit :=
  { u with
    line := u.line.tail
    tx := u.tx ++ [wire (byte kindReply) (byte kind :: byte (resultCode result) :: body)]
    counters :=
      if result = .ok then u.counters
      else { u.counters with requestsRefused := min counterMax (u.counters.requestsRefused + 1) } }

/-- The state after a request of a port was answered so, and nothing else happened (R173). -/
def State.answeredAt (s : State) (p : Port) (kind : Nat) (result : Result) (body : List Byte) : State :=
  s.modPort p fun u => u.answered kind result body

/-- The state after a request left its port's waiting ones, unanswered. -/
def State.handed (s : State) (p : Port) : State := s.modPort p fun u => { u with line := u.line.tail }

/-- A sequencer as every entry to READY leaves it (R88), before what the rule of the entry adds: every lane timer stopped
and nothing released. -/
def Sequencer.atReady (q : Sequencer) : Sequencer :=
  { q with
    state := .ready, released := .none, elapsed := none, lockTimer := none, leadTimer := none, dwellTimer := none,
    stallTimer := none, purgeTimer := none }

/-- A lane as every entry to READY leaves it (R88, R132), its metering unit stopped by itself. -/
def LaneUnit.atReady (u : LaneUnit) : LaneUnit :=
  { u with
    seq := u.seq.atReady
    gov := { current := 1000, lastSent := 1000, starved := false, starvationTimer := none, segmentMin := none } }

/-- The port whose request a command is (R174); none for a command that is no request. -/
def requestPort : Instr → Option Port
  | .jobOpen lane _ _ => some lane.port
  | .jobClose lane => some lane.port
  | .post lane _ _ => some lane.port
  | .next lane => some lane.port
  | .done lane _ => some lane.port
  | .resume lane => some lane.port
  | .abort (.head lane) => some lane.port
  | .abort (.cell _) => some .C
  | .complRead lane _ => some lane.port
  | .status port => some port
  | .clear port _ => some port
  | .mask port _ => some port
  | .route _ => some .C
  | .counterRead port _ _ => some port
  | .counterReadClear port _ => some port
  | .tableWriteRecipe _ _ => some .C
  | .tableWriteElement _ _ => some .C
  | .tableWriteControl _ _ => some .C
  | .tableWriteFactorTable _ _ _ => some .C
  | .tableWritePartition _ _ => some .C
  | .tableWriteTiming _ _ => some .C
  | .tableReadRecipe _ => some .C
  | .tableReadSelection _ _ => some .C
  | .tableReadFactorTable _ _ => some .C
  | .tableReadPartition _ => some .C
  | .tableReadTiming _ => some .C
  | .modeMirrorOn _ => some .C
  | .modeMirrorOff => some .C
  | .reset => some .C
  | .frameRefused port _ _ => some port
  | .releaseAttempt _ => none
  | .pierceGrant => none
  | .frameCrcDiscard _ => none
  | .gapTimerExpiry _ => none
  | .feedback _ _ => none
  | .lossTimerExpiry => none
  | .settleTimerExpiry => none
  | .rippleWindowComplete _ => none
  | .timebaseTick => none
  | .timestampWrap => none
  | .governorEvaluation => none
  | .starvationTimerExpiry _ => none
  | .lockTimeoutExpiry _ => none
  | .abrasiveLeadExpiry _ => none
  | .dwellExpiry _ => none
  | .stallExpiry _ => none
  | .purgeExpiry _ => none
  | .pierceWaitTimerExpiry _ => none
  | .slotTimerExpiry _ => none
  | .flowInputChange _ _ => none
  | .flowFilterExpiry _ => none
  | .windowTimerExpiry _ => none
  | .graceTimerExpiry _ => none
  | .inhibitAssert => none
  | .inhibitRelease => none
  | .resetInputAssert => none
  | .powerOn => none
  | .linkByteReceived _ _ => none
  | .frameSent _ => none

/-- No job is open on the lane (R5): it is CLOSED or MIRRORED. -/
def State.jobless (s : State) (L : Lane) : Bool := s.laneState L == .closed || s.laneState L == .mirrored

/-! ## Invariants -/

/-- The lane has its valve open or is in PIERCING. -/
def LaneState.jetting : LaneState → Bool
  | .piercing _ => true
  | st => st.valveOpen

/-- No jet while the inhibit is asserted or the pump is lost (R60, R80), and a TRAVERSING lane has a TRAVERSE
released. -/
structure JetsSafe (s : State) : Prop where
  withheld : s.inhibit = true ∨ s.monitor.lost = true → ∀ L, (s.laneState L).jetting = false
  traverse : ∀ L, s.laneState L = .traversing →
    ∃ e, (s.lane L).seq.released = .segment e ∧ Segment.isCut e.seg = false

/-- A lane in PIERCING holds the grant (R100). -/
def GrantHeld (s : State) : Prop :=
  ∀ L phase, s.laneState L = .piercing phase → ∃ h, s.arbiter.holder = some h ∧ h.lane = L

/-- A slot lies in a region (R40). -/
def Region.holds (r : Region) (slot : Nat) : Prop := r.start ≤ slot ∧ slot < r.start + r.size

/-- A lane queue is a ring in its region (R45): no more entries than slots, the get index in the region, and the put index
as many places on as there are entries. -/
structure RingWithin (region : Region) (q : LaneQueue) : Prop where
  fill : q.entries.length ≤ region.size
  get : Region.holds region q.get
  put : q.put = ringSlot region q.get q.entries.length

/-- The lane queues and completion FIFOs lie within their regions (R40, R45). -/
structure StoreWithin (s : State) : Prop where
  queue : ∀ L, RingWithin (s.queueRegion L) (s.lane L).queue
  fifo : ∀ L, (s.lane L).fifo.length ≤ (s.fifoRegion L).size
  room : ∀ L, 1 ≤ (s.fifoRegion L).size

/-- Every item of the configuration store is within its ranges and order rules (R1, R6, R7, R21 to R26, R40, R187). -/
structure ConfigWithin (c : ConfigStore) : Prop where
  recipeCount : c.recipes.length = 32
  recipes : ∀ r ∈ c.recipes, recipeInRange (recipeImage r) = true
  elementCount : c.elements.length = 48
  elements : ∀ e ∈ c.elements, elementInRange (elementImage e) = true ∧ elementOrdered (elementImage e) = true
  control : controlInRange (controlImage c.control) = true
  partition : partitionInRange (partitionImage c.partition) = true
  apart : regionsApart c.partition.queueA c.partition.queueB c.partition.fifoA c.partition.fifoB = true
  timing : timingInRange (timingImage c.timing) = true
  thresholds : c.timing.deassertThreshold < c.timing.assertThreshold
  tables : ∀ item, FactorItem.isDefined item = true →
    (c.tables.values item).length = factorCount item ∧ factorInRange item (c.tables.values item) = true ∧
      factorOrdered item (c.tables.values item) = true

/-- The largest pressure of a recipe or setpoint (R1, R92). -/
def pressureMax : Nat := 6200

/-- The target and the ramped setpoint stay within 0..6200 bar (R106, R116). -/
structure SetpointWithin (s : State) : Prop where
  config : ConfigWithin s.config
  target : s.arbiter.target ≤ pressureMax
  ramped : s.monitor.ramped ≤ pressureMax
  holder : ∀ h, s.arbiter.holder = some h → h.pressure ≤ pressureMax
  queue : ∀ e ∈ s.arbiter.queue, e.pressure ≤ pressureMax

/-- The monitor's view of the samples (R115, R120, R122, R128). -/
structure SamplesWithin (s : State) : Prop where
  history : s.monitor.history.length ≤ 8
  samples : ∀ p ∈ s.monitor.history, p ≤ 7000
  filtered : s.monitor.filtered = s.monitor.history.sum / s.monitor.history.length
  window : s.monitor.window.length ≤ 63
  lost : s.monitor.lost = true → s.monitor.history = [] ∧ s.monitor.window = [] ∧ s.monitor.alarm = false ∧
    s.monitor.locked = false ∧ s.monitor.settleTimer = none

/-- Every counter of the part, group by group in the order of R192. -/
def State.counters (s : State) : List Nat :=
  s.groupValues 0 ++ s.groupValues 1 ++ s.groupValues 2 ++ s.groupValues 3 ++ s.groupValues 4 ++ s.groupValues 5

/-- No counter passes its largest value (R191). -/
def CountersWithin (s : State) : Prop := ∀ n ∈ s.counters, n ≤ 4294967295

/-- The head of a lane queue calls for a pierce (R66): a PIERCE, or a LINE or ARC with a repierce owed. -/
def State.headToPierce (s : State) (L : Lane) : Prop :=
  ∃ e, s.queueHead L = some e ∧
    ((∃ dwell, e.seg = .pierce dwell) ∨
      (Segment.isCut e.seg = true ∧ (s.lane L).seq.repierceFlag = true ∧ (s.lane L).seq.repierceKind.isSome = true))

/-- A lane with an entry in the pierce queue is READY with a NEXT pending, no lane has two entries (R95), and lane B is
MIRRORED exactly while mirror mode is on (R60, R165). -/
structure WaitsInOrder (s : State) : Prop where
  waiting : ∀ e ∈ s.arbiter.queue,
    s.laneState e.lane = .ready ∧ (s.lane e.lane).seq.nextPending = true ∧ s.headToPierce e.lane
  once : (s.arbiter.queue.map PierceEntry.lane).Nodup
  mirror : s.mirror = true ↔ s.laneState .B = .mirrored
  leader : s.laneState .A ≠ .mirrored

end Sys2Proof.Machine
end

