-- ==== Sys2Proof/Certificates/Slice0/Obligations.lean ====
section
/-! DEFINITION. The statements about the part. Each says which rules it follows; the log entries named are choices of
the model. -/

open Sys2Proof Sys2Proof.Machine

/-! ## The queue of commands -/

/-- A step is the command at the front of the queue, taken with the rest behind it; with an empty queue the part idles
(the model's choice, log entry 6). -/
def Obligations.StepTakesFrontCommand : Prop :=
  (∀ (c : Instr) (rest : List Instr) (s : State), s.pending = c :: rest → step s = exec c { s with pending := rest }) ∧
    ∀ s : State, s.pending = [] → step s = .next s

/-- Every command has an effect in every state of the part, and none touches the commands that wait: the part never
stops. A port hands on its completed requests one at a time in their order (R172): a request that comes while another
waits at the front of its port's line overtakes none; it joins the end of the line, or keeps its place where it waits
already, and nothing else changes. That a commanded request stands for its frame in this way is the model's choice (log
entry 4). -/
def Obligations.EveryCommandCompletes : Prop :=
  (∀ (c : Instr) (s : State), ∃ t, exec c s = .next t ∧ t.pending = s.pending) ∧
  ∀ (c : Instr) (p : Port) (s : State) (first : Instr) (rest : List Instr),
    requestPort c = some p → s.resetInput = false → (s.port p).line = first :: rest → first ≠ c →
    exec c s = .next (if c ∈ rest then s else s.modPort p fun u => { u with line := first :: rest ++ [c] })

/-! ## Frames -/

/-- The frame of every well-formed request decodes to that request on its port, and its payload is one that LEN allows
(R170, R172, R174, R176, R188). -/
def Obligations.RequestFramesDecode : Prop :=
  ∀ (c : Instr) (p : Port) (kind : Nat) (payload : List Byte),
    c.wellFormed = true → encodeRequest c = some (p, kind, payload) →
    (∀ q k bytes, c = .frameRefused q k bytes → (frameVerdict q k bytes).isSome = true) →
    payload.length ≤ 48 ∧ decodeFrame p (byte kind) payload = c

/-- Frames written out from R170, R175, R176 and R188 by hand decode to the requests they stand for, and the CRC has the
check value of R170. -/
def Obligations.HandWrittenFramesDecode : Prop :=
  crc16 [0x31#8, 0x32#8, 0x33#8, 0x34#8, 0x35#8, 0x36#8, 0x37#8, 0x38#8, 0x39#8] = 0x29B1#16 ∧
    wire 0x04#8 [] = [0xA5#8, 0x04#8, 0x00#8] ++ crcField 0x04#8 [] ∧
    decodeFrame .A 0x01#8 [0x01#8, 0x2C#8, 0x00#8, 0xC8#8] = .jobOpen .A 300 200 ∧
    decodeFrame .B 0x03#8 [0x00#8, 0x07#8, 0x01#8, 0x01#8, 0xF4#8] = .post .B 7 (.known (.pierce (some 500))) ∧
    decodeFrame .A 0x03#8
        [0x00#8, 0x08#8, 0x03#8, 0x00#8, 0x09#8, 0xC4#8, 0x03#8, 0x84#8, 0x00#8, 0x00#8, 0x03#8, 0x02#8, 0x00#8, 0x96#8] =
      .post .A 8 (.known (.arc ⟨2500, 900, 0, 3, false, true⟩ 150)) ∧
    decodeFrame .C 0x06#8 [0x01#8] = .abort (.cell 1) ∧
    decodeFrame .C 0x11#8 [0x00#8, 0x04#8, 0x00#8, 0x01#8] = .clear .C 0x00040001#32 ∧
    decodeFrame .C 0x13#8 [0x05#8, 0x01#8] = .counterReadClear .C 5 ∧
    decodeFrame .C 0x20#8 [0x08#8, 0x00#8, 0x0C#8, 0x01#8, 0x1F#8] = .tableWriteControl 0 ⟨12, 1, 31⟩ ∧
    decodeFrame .C 0x21#8 [0x06#8, 0x05#8] = .tableReadRecipe 5

/-- How a master port judges a good frame: the LEN of each kind on each port (R172, R174, R189, R192), BAD_LENGTH for any
other, and BAD_KIND for a kind the port does not take; a refused frame gets the reply of its refusal and is not handed on.
The result codes of every reply (R173) and the kind codes (R174) are those of the tables. -/
def Obligations.BadFramesAreRefused : Prop :=
  ([Result.ok, .badKind, .badLength, .badField, .noJob, .jobActive, .noRecipe, .queueFull, .outOfSequence, .jetState,
      .belowFloor, .busy, .alreadyPending, .nothingReleased, .wrongSegment, .faulted, .notFaulted, .causePresent,
      .queueNotEmpty, .mirrored, .inUse, .tableOrder, .overlap].map resultCode = List.range 23 ∧
    [kindJobOpen, kindJobClose, kindPost, kindNext, kindDone, kindAbort, kindResume, kindComplRead] =
      [0x01, 0x02, 0x03, 0x04, 0x05, 0x06, 0x07, 0x08] ∧
    [kindStatus, kindClear, kindMask, kindCounterRead] = [0x10, 0x11, 0x12, 0x13] ∧
    [kindTableWrite, kindTableRead, kindMode, kindRoute, kindReset] = [0x20, 0x21, 0x22, 0x23, 0x24] ∧
    [kindRelease, kindPierceDone, kindOverride, kindReply, kindSetpoint, kindFeedback] =
      [0x40, 0x41, 0x42, 0x80, 0x60, 0x61]) ∧
  (∀ (payload : List Byte) (p : Port), p ≠ .C →
    ∀ kl ∈ [(0x01#8, 4), (0x02#8, 0), (0x04#8, 0), (0x05#8, 2), (0x06#8, 0), (0x07#8, 0), (0x08#8, 1), (0x10#8, 0),
        (0x11#8, 2), (0x12#8, 2), (0x13#8, 2)],
      frameVerdict p kl.1 payload = if payload.length = kl.2 then none else some .badLength) ∧
  (∀ (payload : List Byte),
    ∀ kl ∈ [(0x06#8, 1), (0x10#8, 0), (0x11#8, 4), (0x12#8, 4), (0x13#8, 2), (0x21#8, 2), (0x22#8, 1), (0x23#8, 2),
        (0x24#8, 0)],
      frameVerdict .C kl.1 payload = if payload.length = kl.2 then none else some .badLength) ∧
  (∀ (payload : List Byte) (p : Port), p ≠ .C →
    frameVerdict p 0x03#8 payload =
      match payload with
      | _ :: _ :: kind :: rest =>
        if kind = 0x00#8 ∧ rest.length ≠ 3 ∨ kind = 0x01#8 ∧ rest.length ≠ 0 ∧ rest.length ≠ 2 ∨
          kind = 0x02#8 ∧ rest.length ≠ 9 ∨ kind = 0x03#8 ∧ rest.length ≠ 11 then some .badLength
        else none
      | _ => some .badLength) ∧
  (∀ (payload : List Byte),
    frameVerdict .C 0x20#8 payload =
      match payload with
      | item :: _ :: values =>
        if h : item.toNat < 11 then
          if values.length = [26, 32, 8, 8, 20, 16, 23, 12, 3, 22, 31][item.toNat]'(by simpa using h) then none
          else some .badLength
        else none
      | _ => some .badLength) ∧
  (∀ (payload : List Byte) (p : Port) (kind : Byte),
    kind ∉ (if p = .C then [0x06#8, 0x10#8, 0x11#8, 0x12#8, 0x13#8, 0x20#8, 0x21#8, 0x22#8, 0x23#8, 0x24#8]
      else [0x01#8, 0x02#8, 0x03#8, 0x04#8, 0x05#8, 0x06#8, 0x07#8, 0x08#8, 0x10#8, 0x11#8, 0x12#8, 0x13#8]) →
    frameVerdict p kind payload = some .badKind) ∧
  ∀ (p : Port) (kind : Byte) (payload : List Byte) (result : Result) (s : State),
    s.hands p (.frameRefused p kind payload) = true → frameVerdict p kind payload = some result →
    exec (.frameRefused p kind payload) s = .next (s.answeredAt p kind.toNat result [])

/-- A whole good frame, received byte by byte on a master link by a receiver in HUNT, leaves the receiver in HUNT with its
gap timer stopped, counts one in FRAMES_OK, puts behind the port's waiting requests what the frame asks for, and
changes nothing else (R170, R171, R172). -/
def Obligations.GoodFrameJoinsTheLine : Prop :=
  ∀ (s : State) (p : Port) (kind : Byte) (payload : List Byte),
    s.resetInput = false → (s.rx p.link).state = .hunt → payload.length ≤ 48 →
    s.pending = (wire kind payload).map (Instr.linkByteReceived p.link) →
    Host.Core.run Sys2Proof.core (payload.length + 5) s =
      .next (({ s with pending := [] } : State).modPort p fun u =>
        { u with
          rx := { state := .hunt, gapTimer := none }
          line := u.line ++ [decodeFrame p kind payload]
          counters := { u.counters with framesOk := min 4294967295 (u.counters.framesOk + 1) } })

/-- A whole good frame on the pump link, received byte by byte: a FEEDBACK of LEN 3 is taken as the FEEDBACK of its
pressure and status, and any other frame is discarded and counted in SAMPLES_BAD (R118, R178). -/
def Obligations.PumpFrameIsTaken : Prop :=
  ∀ (s : State) (kind : Byte) (payload : List Byte),
    s.resetInput = false → s.pumpRx.state = .hunt → payload.length ≤ 48 →
    s.pending = (wire kind payload).map (Instr.linkByteReceived .pump) →
    let hunting : State := { s with pending := [], pumpRx := { state := .hunt, gapTimer := none } }
    (∀ high low status : Byte, kind = 0x61#8 → payload = [high, low, status] →
      Host.Core.run Sys2Proof.core (payload.length + 5) s =
        exec (.feedback (high.toNat * 256 + low.toNat) status.toNat) hunting) ∧
    (kind ≠ 0x61#8 ∨ payload.length ≠ 3 →
      Host.Core.run Sys2Proof.core (payload.length + 5) s =
        .next { hunting with
          pumpCounters := { s.pumpCounters with samplesBad := min 4294967295 (s.pumpCounters.samplesBad + 1) } })

/-- What a receiver does with one byte, by its receive state (R118, R171), and what a discard does. The gap timer restarts
from 2 ms at every byte of a frame. A byte that completes a good frame is the business of the statements about whole
frames. A CRC discard counts in FRAMES_CRC and a gap discard in FRAMES_GAP of the port, either in SAMPLES_BAD on the pump
link; the receiver returns to HUNT with its gap timer stopped, no reply is sent and nothing else changes. A gap timer
expires only once it is due (log entry 2). FRAME_CRC_DISCARD as a command of its own, with what it does in every receive
state, HUNT with no frame to discard included, is the model's choice (log entry 12). -/
def Obligations.ReceiverTakesByteOrDiscards : Prop :=
  (∀ (l : Link) (b : Byte) (s : State), s.resetInput = false →
     let goesTo (state : RxState) : State := s.setRx l { state := state, gapTimer := some 2 }
     ∃ t, exec (.linkByteReceived l b) s = .next t ∧
       match (s.rx l).state with
       | .hunt => t = if b = 0xA5#8 then goesTo (.header none) else s
       | .header none => t = goesTo (.header (some b))
       | .header (some kind) =>
         if 48 < b.toNat then exec (.frameCrcDiscard l) s = .next t
         else t = goesTo (if b.toNat = 0 then .check kind [] none else .payload kind b.toNat [])
       | .payload kind len got =>
         t = goesTo (if got.length + 1 < len then .payload kind len (got ++ [b]) else .check kind (got ++ [b]) none)
       | .check kind got none => t = goesTo (.check kind got (some b))
       | .check kind got (some high) =>
         [high, b] ≠ crcField kind got → exec (.frameCrcDiscard l) s = .next t) ∧
  (∀ (l : Link) (s : State), s.resetInput = false →
     let hunting := s.setRx l { state := .hunt, gapTimer := none }
     let bad : State :=
       { hunting with
         pumpCounters := { s.pumpCounters with samplesBad := min 4294967295 (s.pumpCounters.samplesBad + 1) } }
     let crc (u : PortUnit) : PortUnit :=
       { u with counters := { u.counters with framesCrc := min 4294967295 (u.counters.framesCrc + 1) } }
     let gap (u : PortUnit) : PortUnit :=
       { u with counters := { u.counters with framesGap := min 4294967295 (u.counters.framesGap + 1) } }
     exec (.frameCrcDiscard l) s =
         .next (match l with
           | .A => hunting.modPort .A crc
           | .B => hunting.modPort .B crc
           | .C => hunting.modPort .C crc
           | .pump => bad) ∧
       ((s.rx l).gapTimer = some 0 →
         exec (.gapTimerExpiry l) s =
           .next (match l with
             | .A => hunting.modPort .A gap
             | .B => hunting.modPort .B gap
             | .C => hunting.modPort .C gap
             | .pump => bad)) ∧
       ((s.rx l).gapTimer ≠ some 0 → exec (.gapTimerExpiry l) s = .next s))

/-- A frame that has been sent leaves the front of its link's transmit order; the frames behind it keep their order, no
other link's order moves, and nothing else changes (R169). -/
def Obligations.SentFrameLeavesItsLink : Prop :=
  ∀ (l : Link) (s : State), s.resetInput = false →
    ∃ t, exec (.frameSent l) s = .next t ∧ t.tx l = (s.tx l).tail ∧ (∀ m, m ≠ l → t.tx m = s.tx m) ∧
      ∀ frames, (t.modTx l fun _ => frames) = s.modTx l fun _ => frames

/-! ## STATUS, the event units and the counters -/

/-- STATUS on a head port (R62, R177) and on port C (R110, R131, R144, R161, R177): answered OK with the state of the port's
lane, or of the mode, the arbiter, the monitor, the governors and the metering units, and nothing of the part changes.
The bytes of what is absent (a released seg_id, a last seg_id, a head entry, a last window count) are not stated: free
values, log entry 1. The flag of a kind that is absent, a repierce's or the holder's, is clear: log entry 23. The bits of
the flag bytes to which R177 gives no meaning are 0, the model's choice: log entry 28. The codes are those of R175. -/
def Obligations.StatusShowsTheState : Prop :=
  ([LaneState.closed, .ready, .piercing .ramp, .piercing .opened, .piercing .dwell, .cutting, .openIdle, .stopping,
      .traversing, .fault, .mirrored].map laneStateCode = List.range 11 ∧
    [WaitReason.none, .empty, .lookahead, .pierceQueue, .stopping].map waitReasonCode = List.range 5 ∧
    [FaultCause.abrasiveLoss, .pumpLoss, .inhibit, .stall, .starved, .lockTimeout].map faultCauseCode =
      [1, 2, 3, 4, 5, 6] ∧
    [none, some LossReason.timeout, some .stopped, some .tripped, some .badStatus].map lossReasonCode = List.range 5 ∧
    [none, some PumpStatus.running, some .stopped, some .tripped, some .badStatus].map pumpStatusCode = List.range 5 ∧
    ∀ length dwell cut radius,
      [Segment.traverse length, .pierce dwell, .line cut, .arc cut radius].map segmentKindCode = [0, 1, 2, 3]) ∧
  (∀ (L : Lane) (s : State), s.hands L.port (.status L.port) = true →
     let u := s.lane L
     let q := u.seq
     ∃ body : List Byte,
       exec (.status L.port) s =
           .next { s.answeredAt L.port kindStatus .ok body with freeUsed := s.freeUsed + 5 } ∧
         body.length = 12 ∧
         body.take 4 =
           [byte (laneStateCode q.state),
             byte (flagNat q.nextPending + 2 * flagNat q.postedJet + 4 * flagNat q.repierceFlag +
               8 * flagNat (q.repierceKind == some .kerf) + 16 * flagNat (q.released != .none) +
               32 * flagNat q.lastSegId.isSome),
             byte (waitReasonCode q.wait), byte ((q.faultCause.map faultCauseCode).getD 0)] ∧
         (∀ e, q.released = .segment e →
           (body.drop 4).take 3 = beBytes 2 e.segId ++ [byte (segmentKindCode e.seg)]) ∧
         (∀ segId kind, q.released = .repierce segId kind → (body.drop 4).take 3 = beBytes 2 segId ++ [0x04#8]) ∧
         (∀ n, q.lastSegId = some n → (body.drop 7).take 2 = beBytes 2 n) ∧
         body.drop 9 = beBytes 2 u.queue.entries.length ++ [byte u.fifo.length]) ∧
  (∀ s : State, s.hands .C (.status .C) = true →
     let m := s.monitor
     let a := s.arbiter
     ∃ body : List Byte,
       exec (.status .C) s = .next { s.answeredAt .C kindStatus .ok body with freeUsed := s.freeUsed + 5 } ∧
         body.length = 45 ∧
         body[0]? =
           some (byte (flagNat s.mirror + 2 * flagNat s.inhibit + 4 * flagNat m.lastRun + 8 * flagNat m.lost +
             16 * flagNat m.locked + 32 * flagNat m.settleTimer.isSome + 64 * flagNat m.alarm)) ∧
         (a.queue.length < 4 →
           body[1]? =
             some (byte ((match a.holder with
               | none => 0
               | some ⟨.A, kind, _⟩ => 1 + 4 * flagNat (kind == .kerf)
               | some ⟨.B, kind, _⟩ => 2 + 4 * flagNat (kind == .kerf)) + 16 * a.queue.length))) ∧
         (body.drop 2).take 2 =
           beBytes 2 (match a.holder with
             | none => 0
             | some h => h.pressure) ∧
         (∀ e, a.queue.head? = some e →
           (body.drop 4).take 3 =
             byte (flagNat (e.lane == .B) + 2 * flagNat (e.kind == .kerf) + 4 * flagNat e.waitTimer.isNone) ::
               beBytes 2 e.pressure) ∧
         (body.drop 7).take 3 =
           (match a.queue[1]? with
           | none => [0x00#8, 0x00#8, 0x00#8]
           | some e =>
             byte (flagNat (e.lane == .B) + 2 * flagNat (e.kind == .kerf) + 4 * flagNat e.waitTimer.isNone) ::
               beBytes 2 e.pressure) ∧
         (body.drop 10).take 6 = beBytes 2 a.target ++ beBytes 2 m.ramped ++ beBytes 2 m.filtered ∧
         (m.history.length < 16 →
           body[16]? = some (byte (m.history.length + 16 * lossReasonCode m.lossReason))) ∧
         body[17]? = some (byte (pumpStatusCode m.lastStatus)) ∧
         (body.drop 18).take 3 = beBytes 2 (m.lastRipple.getD 65535) ++ [0x00#8] ∧
         ∀ L : Lane,
           let u := s.lane L
           let part := (body.drop (if L = .A then 21 else 33)).take 12
           part.take 8 =
               [byte (laneStateCode u.seq.state)] ++ beBytes 2 u.gov.current ++ beBytes 2 u.gov.lastSent ++
                 [byte (flagNat u.gov.starved + 2 * flagNat u.gov.starvationTimer.isSome + 4 * flagNat u.gen.running +
                     8 * flagNat (u.filter.accepted == .high) + 32 * flagNat u.mon.lastWindow.isSome +
                     64 * (match u.mon.grace with
                       | .stopped => 0
                       | .running _ => 1
                       | _ => 2)),
                   byte u.gen.level, byte (u.gen.pendingLevel.getD 0)] ∧
             (u.gen.slot < 16 →
               (part.drop 8).take 3 =
                 [byte (u.gen.slot + 16 * u.mon.badCount), byte u.mon.goodCount, byte u.mon.edgeCount]) ∧
             ∀ n, u.mon.lastWindow = some n → part[11]? = some (byte n))

/-- CLEAR (R182), MASK and ROUTE (R183): a mask with a bit outside the port's defined events is refused BAD_FIELD and leaves
the sets as they were; CLEAR removes the events it names from the pending set of its port, MASK replaces the enable mask
of its port and ROUTE the route mask, whole, each answered OK. Nothing else changes. -/
def Obligations.ClearMaskAndRoute : Prop :=
  (∀ (p : Port) (events : BitVec 32) (s : State), s.hands p (.clear p events) = true →
     exec (.clear p events) s =
       .next
         (if events.toNat < 2 ^ (if p = .C then 20 else 10) then
           (s.answeredAt p kindClear .ok []).modPort p fun u =>
             { u with events := { u.events with pending := u.events.pending &&& ~~~events } }
         else s.answeredAt p kindClear .badField [])) ∧
  ((∀ (p : Port) (events : BitVec 32) (s : State), s.hands p (.mask p events) = true →
     exec (.mask p events) s =
       .next
         (if events.toNat < 2 ^ (if p = .C then 20 else 10) then
           (s.answeredAt p kindMask .ok []).modPort p fun u => { u with events := { u.events with enable := events } }
         else s.answeredAt p kindMask .badField [])) ∧
   ∀ (events : BitVec 16) (s : State), s.hands .C (.route events) = true →
     exec (.route events) s = .next { s.answeredAt .C kindRoute .ok [] with route := events })

/-- The attention line of a port is asserted while some event is both pending and enabled (R181). Raising an event on a
lane's head port (R179, R180): the event joins the port's pending set, whether enabled or not, port C raises its copy
exactly when the event is one of bits 0 to 7 and the route mask selects it for the lane, and nothing else changes. An
event of port C's own joins port C's pending set, and nothing else changes. The bits are those of R179. -/
def Obligations.EventsAreRaisedAndCopied : Prop :=
  ([HeadEvent.fault, .starving, .abrasiveLoss, .queueLow, .completionReady, .completionLost, .peerPierceWaiting,
      .pierceWaitLong, .pumpLoss, .ripple].map headBit = List.range 10 ∧
    [CellEvent.pumpLoss, .ripple, .inhibit, .timeWrap].map cellBit = [16, 17, 18, 19]) ∧
  (∀ (s : State) (e : CellEvent),
     let t := s.raiseCell e
     (∀ n < 32, t.portC.events.pending.getLsbD n = (s.portC.events.pending.getLsbD n || n == cellBit e)) ∧
     t = s.modPort .C fun u => { u with events := { u.events with pending := t.portC.events.pending } }) ∧
  (∀ (s : State) (p : Port),
     s.attention p = true ↔
       ∃ n, (s.port p).events.pending.getLsbD n = true ∧ (s.port p).events.enable.getLsbD n = true) ∧
  (∀ (s : State) (L : Lane) (e : HeadEvent),
     let bit := headBit e
     let copy := if L = .A then bit else bit + 8
     let copied := decide (bit < 8) && s.route.getLsbD copy
     let t := s.raiseHead L e
     (∀ n < 32,
       (t.port L.port).events.pending.getLsbD n = ((s.port L.port).events.pending.getLsbD n || n == bit)) ∧
     (∀ n < 32, t.portC.events.pending.getLsbD n = (s.portC.events.pending.getLsbD n || (copied && n == copy))) ∧
     t =
       (s.modPort L.port fun u =>
           { u with events := { u.events with pending := (t.port L.port).events.pending } }).modPort .C fun u =>
         { u with events := { u.events with pending := t.portC.events.pending } })

/-- COUNTER_READ, without and with clear-after-read (R192): which groups a port may read, BAD_FIELD otherwise; the OK reply
holds the group code, the number of its counters and their values; with the clear flag every counter of the group is
then 0 and every other group is as it was. -/
def Obligations.CounterReadAndClear : Prop :=
  ∀ (p : Port) (group : Nat) (s : State),
    let may := match p with
      | .A => group = 0 ∨ group = 2
      | .B => group = 1 ∨ group = 3
      | .C => group ≤ 5
    let body := byte group :: byte (s.groupValues group).length :: (s.groupValues group).flatMap (beBytes 4)
    (s.hands p (.counterRead p group 0) = true →
      (may → exec (.counterRead p group 0) s = .next (s.answeredAt p kindCounterRead .ok body)) ∧
      (¬ may → exec (.counterRead p group 0) s = .next (s.answeredAt p kindCounterRead .badField []))) ∧
    (∀ flag, 1 < flag → s.hands p (.counterRead p group flag) = true →
      exec (.counterRead p group flag) s = .next (s.answeredAt p kindCounterRead .badField [])) ∧
    (s.hands p (.counterReadClear p group) = true →
      (may →
        ∃ t, exec (.counterReadClear p group) s = .next t ∧
          t = (s.answeredAt p kindCounterRead .ok body).clearGroup group ∧
          ∀ other ≤ 5,
            t.groupValues other = if other = group then (s.groupValues group).map fun _ => 0 else s.groupValues other) ∧
      (¬ may → exec (.counterReadClear p group) s = .next (s.answeredAt p kindCounterRead .badField [])))

/-! ## The configuration store -/

/-- TABLE_WRITE of a recipe (R3): the checks in their order, and the record replaced whole by the written values. Nothing
but the record and the reply changes. -/
def Obligations.RecipeWriteIsChecked : Prop :=
  ∀ (index : Nat) (m : RecipeImage) (s : State), s.hands .C (.tableWriteRecipe index m) = true →
    exec (.tableWriteRecipe index m) s =
      .next
        (if 31 < index then s.answeredAt .C kindTableWrite .badField []
        else if s.jobless .A = false ∧ s.laneA.seq.recipe = some index ∨
            s.jobless .B = false ∧ s.laneB.seq.recipe = some index then
          s.answeredAt .C kindTableWrite .inUse []
        else if m.valid ≤ 1 ∧ 10 ≤ m.sb ∧ m.sb ≤ 6000 ∧ 1500 ≤ m.pCut ∧ m.pCut ≤ 6200 ∧ 600 ≤ m.pPierce ∧
            m.pPierce ≤ 6200 ∧ 100 ≤ m.pierceDwell ∧ m.pierceDwell ≤ 30000 ∧ m.kerfDwell ≤ 30000 ∧ 1 ≤ m.lCut ∧
            m.lCut ≤ 16 ∧ 1 ≤ m.lPierce ∧ m.lPierce ≤ 16 ∧ m.abrasiveLead ≤ 500 ∧ m.purge ≤ 2000 ∧
            1 ≤ m.feedFloor ∧ m.feedFloor ≤ 6000 ∧ 100 ≤ m.closingFactor ∧ m.closingFactor ≤ 1000 ∧
            500 ≤ m.rippleDerate ∧ m.rippleDerate ≤ 1000 then
          { s.answeredAt .C kindTableWrite .ok [] with
            config := { s.config with
              recipes := s.config.recipes.set index
                { valid := decide (m.valid = 1), sb := m.sb, pCut := m.pCut, pPierce := m.pPierce,
                  pierceDwell := m.pierceDwell, kerfDwell := m.kerfDwell, lCut := m.lCut, lPierce := m.lPierce,
                  abrasiveLead := m.abrasiveLead, purge := m.purge, feedFloor := m.feedFloor,
                  closingFactor := m.closingFactor, rippleDerate := m.rippleDerate } } }
        else s.answeredAt .C kindTableWrite .badField [])

/-- TABLE_WRITE of a selection list element and of the control (R6, R7, R9, R10, R189): the checks in their order, and the
element at the position, or all three fields of the control, replaced. Nothing else but the reply changes. -/
def Obligations.SelectionWritesAreChecked : Prop :=
  (∀ (index : Nat) (m : ElementImage) (s : State), s.hands .C (.tableWriteElement index m) = true →
    exec (.tableWriteElement index m) s =
      .next
        (if 47 < index then s.answeredAt .C kindTableWrite .badField []
        else if s.jobless .A = false ∨ s.jobless .B = false then s.answeredAt .C kindTableWrite .inUse []
        else if ¬ (m.enabled ≤ 1 ∧ m.type ≤ 2 ∧ (m.action = 0 ∧ m.recipe = 0 ∨ m.action = 1 ∧ m.recipe ≤ 31) ∧
            m.code1 ≤ 65535 ∧ m.code2 ≤ 65535 ∧ 10 ≤ m.tmin ∧ m.tmin ≤ 1000 ∧ 10 ≤ m.tmax ∧ m.tmax ≤ 1000) then
          s.answeredAt .C kindTableWrite .badField []
        else if m.tmin ≤ m.tmax ∧ (m.type = 1 → m.code1 ≤ m.code2) then
          { s.answeredAt .C kindTableWrite .ok [] with
            config := { s.config with
              elements := s.config.elements.set index
                { enabled := decide (m.enabled = 1)
                  type := if m.type = 0 then .exact else if m.type = 1 then .range else .mask
                  code1 := m.code1
                  code2 := m.code2
                  tmin := m.tmin
                  tmax := m.tmax
                  action := if m.action = 1 then .use m.recipe else .reject } } }
        else s.answeredAt .C kindTableWrite .tableOrder [])) ∧
  ∀ (index : Nat) (m : ControlImage) (s : State), s.hands .C (.tableWriteControl index m) = true →
    exec (.tableWriteControl index m) s =
      .next
        (if index ≠ 0 then s.answeredAt .C kindTableWrite .badField []
        else if s.jobless .A = false ∨ s.jobless .B = false then s.answeredAt .C kindTableWrite .inUse []
        else if m.listLength ≤ 48 ∧ m.policy ≤ 1 ∧ m.defaultRecipe ≤ 31 then
          { s.answeredAt .C kindTableWrite .ok [] with
            config := { s.config with
              control :=
                { listLength := m.listLength, policy := if m.policy = 0 then .reject else .use,
                  defaultRecipe := m.defaultRecipe } } }
        else s.answeredAt .C kindTableWrite .badField [])

/-- TABLE_WRITE of a factor table or the quality map (R27, R189): an item code that no item has, or an index other than 0,
is refused BAD_FIELD, an open job IN_USE, a value out of range BAD_FIELD, a broken order rule TABLE_ORDER; a taken
write replaces every value of that table and of no other. A list that has not the table's number of values, which
LEN keeps from arriving, is refused BAD_LENGTH (the model's choice, log entry 13). -/
def Obligations.FactorTableWriteIsChecked : Prop :=
  ∀ (item : FactorItem) (index : Nat) (values : List Nat) (s : State),
    s.hands .C (.tableWriteFactorTable item index values) = true →
    let refused (result : Result) : Prop :=
      exec (.tableWriteFactorTable item index values) s = .next (s.answeredAt .C kindTableWrite result [])
    let judged (count lo hi : Nat) (ordered : Prop) (tables : FactorTables) : Prop :=
      (values.length ≠ count → refused .badLength) ∧
      (values.length = count → index ≠ 0 → refused .badField) ∧
      (values.length = count → index = 0 →
        (s.jobless .A = false ∨ s.jobless .B = false → refused .inUse) ∧
        (s.jobless .A = true ∧ s.jobless .B = true →
          ((∃ v ∈ values, v < lo ∨ hi < v) → refused .badField) ∧
          ((∀ v ∈ values, lo ≤ v ∧ v ≤ hi) → ¬ ordered → refused .tableOrder) ∧
          ((∀ v ∈ values, lo ≤ v ∧ v ≤ hi) → ordered →
            exec (.tableWriteFactorTable item index values) s =
              .next { s.answeredAt .C kindTableWrite .ok [] with
                config := { s.config with tables := tables } })))
    let old := s.config.tables
    let rising := values.Pairwise (· ≤ ·)
    let falling := values.Pairwise (· ≥ ·)
    match item with
    | .kp => judged 13 0 3000 rising { old with kp := values }
    | .ka => judged 16 0 2000 rising { old with ka := values }
    | .dq => judged 4 500 10000 rising { old with dq := values }
    | .qualityMap => judged 8 1 4 True { old with qualityMap := values }
    | .kc => judged 10 0 1000 falling { old with kc := values }
    | .kr => judged 8 1 1000 rising { old with kr := values }
    | .undefined _ => refused .badField

/-- TABLE_WRITE of the partition (R42, R43): the checks in their order. A taken write replaces the whole partition, leaves
both lane queues empty at the first slots of their new regions, keeps the records of a FIFO whose start and size are
unchanged, and empties any other, counting its records in COMPLETIONS_LOST and raising COMPLETION_LOST when it held
some. Nothing else but the reply changes. -/
def Obligations.PartitionWriteMovesTheStore : Prop :=
  ∀ (index : Nat) (m : PartitionImage) (s : State), s.hands .C (.tableWritePartition index m) = true →
    let inside (lo hi : Nat) (r : Region) : Prop :=
      r.start ≤ 639 ∧ lo ≤ r.size ∧ r.size ≤ hi ∧ r.start + r.size ≤ 640
    let inRange : Prop :=
      inside 2 256 m.queueA ∧ inside 2 256 m.queueB ∧ inside 1 64 m.fifoA ∧ inside 1 64 m.fifoB ∧
        m.watermarkA ≤ m.queueA.size ∧ m.watermarkB ≤ m.queueB.size ∧ m.modeA ≤ 1 ∧ m.modeB ≤ 1
    let free (r q : Region) : Prop := ∀ slot, ¬ (Region.holds r slot ∧ Region.holds q slot)
    let disjoint : Prop :=
      free m.queueA m.queueB ∧ free m.queueA m.fifoA ∧ free m.queueA m.fifoB ∧ free m.queueB m.fifoA ∧
        free m.queueB m.fifoB ∧ free m.fifoA m.fifoB
    let open? : Prop := s.jobless .A = false ∨ s.jobless .B = false
    let refused (result : Result) : Prop :=
      exec (.tableWritePartition index m) s = .next (s.answeredAt .C kindTableWrite result [])
    let old := s.config.partition
    let mode (v : Nat) : FifoMode := if v = 0 then .keep else .overwrite
    let moved (before after queue : Region) (u : LaneUnit) : LaneUnit :=
      { u with
        queue := { entries := [], put := queue.start, get := queue.start }
        fifo := if before = after then u.fifo else []
        counters :=
          if before = after then u.counters
          else
            { u.counters with completionsLost := min 4294967295 (u.counters.completionsLost + u.fifo.length) } }
    let told (L : Lane) (before after : Region) (t : State) : State :=
      if before = after ∨ (s.lane L).fifo = [] then t else t.raiseHead L .completionLost
    (index ≠ 0 → refused .badField) ∧
    (index = 0 → open? → refused .inUse) ∧
    (index = 0 → ¬ open? → ¬ inRange → refused .badField) ∧
    (index = 0 → ¬ open? → inRange → ¬ disjoint → refused .overlap) ∧
    (index = 0 → ¬ open? → inRange → disjoint →
      let written : State :=
        { s.answeredAt .C kindTableWrite .ok [] with
          config := { s.config with
            partition :=
              { queueA := m.queueA, queueB := m.queueB, fifoA := m.fifoA, fifoB := m.fifoB, watermarkA := m.watermarkA,
                watermarkB := m.watermarkB, modeA := mode m.modeA, modeB := mode m.modeB } }
          laneA := moved old.fifoA m.fifoA m.queueA s.laneA
          laneB := moved old.fifoB m.fifoB m.queueB s.laneB }
      exec (.tableWritePartition index m) s =
        .next (told .B old.fifoB m.fifoB (told .A old.fifoA m.fifoA written)))

/-- TABLE_WRITE of the timing parameters (R187, R189): the checks in their order, and all twenty values replaced together.
Nothing else but the reply changes. -/
def Obligations.TimingWriteIsChecked : Prop :=
  ∀ (index : Nat) (m : TimingImage) (s : State), s.hands .C (.tableWriteTiming index m) = true →
    exec (.tableWriteTiming index m) s =
      .next
        (if index ≠ 0 then s.answeredAt .C kindTableWrite .badField []
        else if s.jobless .A = false ∨ s.jobless .B = false then s.answeredAt .C kindTableWrite .inUse []
        else if (200 ≤ m.stallLimit ∧ m.stallLimit ≤ 30000) ∧ (500 ≤ m.lockTimeout ∧ m.lockTimeout ≤ 20000) ∧
            (1000 ≤ m.pierceWaitLimit ∧ m.pierceWaitLimit ≤ 60000) ∧ m.standbyPressure ≤ 2000 ∧
            (1 ≤ m.rampStep ∧ m.rampStep ≤ 200) ∧ (5 ≤ m.lossLimit ∧ m.lossLimit ≤ 100) ∧
            (25 ≤ m.band ∧ m.band ≤ 500) ∧ (10 ≤ m.settle ∧ m.settle ≤ 2000) ∧
            (1 ≤ m.assertThreshold ∧ m.assertThreshold ≤ 3000) ∧ m.deassertThreshold ≤ 3000 ∧
            (1 ≤ m.overrideStep ∧ m.overrideStep ≤ 100) ∧ (100 ≤ m.starvationLimit ∧ m.starvationLimit ≤ 10000) ∧
            (1 ≤ m.slotTime ∧ m.slotTime ≤ 20) ∧ m.filterTime ≤ 10 ∧ m.edgePolarity ≤ 2 ∧
            (20 ≤ m.windowLength ∧ m.windowLength ≤ 500) ∧ (1 ≤ m.minimumEdgeCount ∧ m.minimumEdgeCount ≤ 255) ∧
            m.graceTime ≤ 5000 ∧ (1 ≤ m.assertCount ∧ m.assertCount ≤ 15) ∧
            (1 ≤ m.clearCount ∧ m.clearCount ≤ 15) ∧ m.deassertThreshold < m.assertThreshold then
          { s.answeredAt .C kindTableWrite .ok [] with
            config := { s.config with
              timing :=
                { stallLimit := m.stallLimit, lockTimeout := m.lockTimeout, pierceWaitLimit := m.pierceWaitLimit,
                  standbyPressure := m.standbyPressure, rampStep := m.rampStep, lossLimit := m.lossLimit,
                  band := m.band, settle := m.settle, assertThreshold := m.assertThreshold,
                  deassertThreshold := m.deassertThreshold, overrideStep := m.overrideStep,
                  starvationLimit := m.starvationLimit, slotTime := m.slotTime, filterTime := m.filterTime
                  edgePolarity := if m.edgePolarity = 0 then .rising else if m.edgePolarity = 1 then .falling else .both
                  windowLength := m.windowLength, minimumEdgeCount := m.minimumEdgeCount, graceTime := m.graceTime,
                  assertCount := m.assertCount, clearCount := m.clearCount } } }
        else s.answeredAt .C kindTableWrite .badField [])

/-- TABLE_READ of any item (R4, R11, R27, R44, R188, R190): answered OK at any time with the item code, the index and the
item as it stands; an index or item code that no item has is refused BAD_FIELD (R189). A read changes nothing. -/
def Obligations.TableReadsShowTheStore : Prop :=
  ∀ s : State,
    let read (c : Instr) (item index : Nat) (values : List Byte) : Prop :=
      s.hands .C c = true → exec c s = .next (s.answeredAt .C kindTableRead .ok (byte item :: byte index :: values))
    let refused (c : Instr) : Prop :=
      s.hands .C c = true → exec c s = .next (s.answeredAt .C kindTableRead .badField [])
    let two := beBytes 2
    let flag (b : Bool) : Byte := if b then 0x01#8 else 0x00#8
    (∀ index r, index ≤ 31 → s.config.recipes[index]? = some r →
      read (.tableReadRecipe index) 6 index
        ([flag r.valid] ++ two r.sb ++ two r.pCut ++ two r.pPierce ++ two r.pierceDwell ++ two r.kerfDwell ++
          [byte r.lCut, byte r.lPierce] ++ two r.abrasiveLead ++ two r.purge ++ two r.feedFloor ++
          two r.closingFactor ++ two r.rippleDerate)) ∧
    (∀ index, 31 < index → refused (.tableReadRecipe index)) ∧
    (∀ index e, index ≤ 47 → s.config.elements[index]? = some e →
      read (.tableReadSelection .element index) 7 index
        ([flag e.enabled,
            match e.type with
            | .exact => 0x00#8
            | .range => 0x01#8
            | .mask => 0x02#8] ++
          two e.code1 ++ two e.code2 ++ two e.tmin ++ two e.tmax ++
          match e.action with
          | .reject => [0x00#8, 0x00#8]
          | .use n => [0x01#8, byte n])) ∧
    (∀ index, 47 < index → refused (.tableReadSelection .element index)) ∧
    (let c := s.config.control;
      read (.tableReadSelection .control 0) 8 0
        [byte c.listLength, flag (c.policy == .use), byte c.defaultRecipe]) ∧
    (∀ index, 0 < index → refused (.tableReadSelection .control index)) ∧
    (let t := s.config.tables;
      read (.tableReadFactorTable .kp 0) 0 0 ((t.kp.take 13).flatMap two) ∧
      read (.tableReadFactorTable .ka 0) 1 0 ((t.ka.take 16).flatMap two) ∧
      read (.tableReadFactorTable .dq 0) 2 0 ((t.dq.take 4).flatMap two) ∧
      read (.tableReadFactorTable .qualityMap 0) 3 0 ((t.qualityMap.take 8).map byte) ∧
      read (.tableReadFactorTable .kc 0) 4 0 ((t.kc.take 10).flatMap two) ∧
      read (.tableReadFactorTable .kr 0) 5 0 ((t.kr.take 8).flatMap two)) ∧
    (∀ item index, 0 < index → refused (.tableReadFactorTable item index)) ∧
    (∀ code index, refused (.tableReadFactorTable (.undefined code) index)) ∧
    (let p := s.config.partition;
      read (.tableReadPartition 0) 9 0
        (two p.queueA.start ++ two p.queueA.size ++ two p.queueB.start ++ two p.queueB.size ++ two p.fifoA.start ++
          two p.fifoA.size ++ two p.fifoB.start ++ two p.fifoB.size ++ two p.watermarkA ++ two p.watermarkB ++
          [flag (p.modeA == .overwrite), flag (p.modeB == .overwrite)])) ∧
    (∀ index, 0 < index → refused (.tableReadPartition index)) ∧
    (let t := s.config.timing;
      read (.tableReadTiming 0) 10 0
        (two t.stallLimit ++ two t.lockTimeout ++ two t.pierceWaitLimit ++ two t.standbyPressure ++
          [byte t.rampStep, byte t.lossLimit] ++ two t.band ++ two t.settle ++ two t.assertThreshold ++
          two t.deassertThreshold ++ [byte t.overrideStep] ++ two t.starvationLimit ++
          [byte t.slotTime, byte t.filterTime,
            match t.edgePolarity with
            | .rising => 0x00#8
            | .falling => 0x01#8
            | .both => 0x02#8] ++
          two t.windowLength ++ [byte t.minimumEdgeCount] ++ two t.graceTime ++
          [byte t.assertCount, byte t.clearCount])) ∧
    ∀ index, 0 < index → refused (.tableReadTiming index)

/-! ## Jobs -/

/-- Selection (R12, R13): the element at position `i` decides when it matches and no position before it does, and with no
match among the first `listLength` positions the non-match policy decides. What an element matches is R12's table. -/
def Obligations.SelectionFindsTheDecidingElement : Prop :=
  ∀ (c : ConfigStore) (material thickness : Nat),
    let isMatch (e : Element) : Prop :=
      e.enabled = true ∧ e.tmin ≤ thickness ∧ thickness ≤ e.tmax ∧
        match e.type with
        | .exact => material = e.code1
        | .range => e.code1 ≤ material ∧ material ≤ e.code2
        | .mask => material &&& e.code2 = e.code1 &&& e.code2
    let valid (n : Nat) : Bool := ((c.recipes[n]?).map Recipe.valid).getD false
    let outcome (source : Option Nat) (action : ElementAction) : Selection :=
      match action with
      | .use n => { source := source, recipe := some n, succeeds := valid n }
      | .reject => { source := source, recipe := none, succeeds := false }
    (∀ i e, i < c.control.listLength → c.elements[i]? = some e → isMatch e →
      (∀ j d, j < i → c.elements[j]? = some d → ¬ isMatch d) →
      c.select material thickness = outcome (some i) e.action) ∧
    ((∀ i e, i < c.control.listLength → c.elements[i]? = some e → ¬ isMatch e) →
      c.select material thickness =
        outcome none
          (match c.control.policy with
          | .use => .use c.control.defaultRecipe
          | .reject => .reject))

/-- JOB_OPEN (R14): the checks in their order; a taken one records the recipe, brings the lane to READY with everything of
a former job forgotten, its completion FIFO kept, and ends with the arbiter's part. The event's end counts the last tick once its expiries are
taken (log entry 16). -/
def Obligations.JobOpenEntersReady : Prop :=
  ∀ (L : Lane) (material thickness : Nat) (s : State), s.hands L.port (.jobOpen L material thickness) = true →
    let sel := s.config.select material thickness
    let body := [byte (sel.source.getD 255), byte (sel.recipe.getD 255)]
    let opened (u : LaneUnit) : LaneUnit :=
      { u.atReady with
        seq := { u.seq.atReady with
          recipe := sel.recipe, nextPending := false, wait := .none, repierceFlag := false, repierceKind := none,
          faultCause := none, postedJet := false, lastSegId := none } }
    exec (.jobOpen L material thickness) s =
      .next
        (if s.laneState L = .mirrored then s.answeredAt L.port kindJobOpen .mirrored []
        else if thickness < 10 ∨ 1000 < thickness then s.answeredAt L.port kindJobOpen .badField []
        else if s.laneState L ≠ .closed then s.answeredAt L.port kindJobOpen .jobActive []
        else if sel.succeeds = false then s.answeredAt L.port kindJobOpen .noRecipe body
        else (((s.answeredAt L.port kindJobOpen .ok body).meterStop L).modLane L opened).conclude)

/-- JOB_CLOSE (R15): taken or refused by the lane's state; a taken one brings the lane to CLOSED, drops its recipe, its
pending NEXT, its owed repierce, its posted jet state and its last seg_id, keeps its completion FIFO, and ends with the
arbiter's part, which makes the target 0 when the other lane has no job open. The last clause is about a part whose
pierce queue is in order (`WaitsInOrder`). The event's end counts the last tick once its expiries are
taken (log entry 16). -/
def Obligations.JobCloseDropsTheJob : Prop :=
  ∀ (L : Lane) (s : State), s.hands L.port (.jobClose L) = true →
    let refused (result : Result) : Prop :=
      exec (.jobClose L) s = .next (s.answeredAt L.port kindJobClose result [])
    match s.laneState L with
    | .closed => refused .noJob
    | .mirrored => refused .mirrored
    | .ready =>
      (s.fill L ≠ 0 → refused .queueNotEmpty) ∧
      (s.fill L = 0 →
        exec (.jobClose L) s =
            .next ((s.answeredAt L.port kindJobClose .ok []).modSeq L fun q =>
              { q with
                state := .closed, recipe := none, nextPending := false, wait := .none, repierceFlag := false,
                repierceKind := none, postedJet := false, lastSegId := none }).conclude ∧
          (WaitsInOrder s → s.jobless L.other = true →
            ∀ t, exec (.jobClose L) s = .next t → t.arbiter.target = 0))
    | _ => refused .busy

/-! ## The feed calculator -/

/-- A piecewise-linear table (R19): at an argument between two neighbouring breakpoints, the left one included, the value
is the left entry plus the correction truncated toward zero, it lies between the two entries, and at the left
breakpoint it is the left entry; at the last breakpoint and above it is the last entry. Kp is 0 below 500 (R21) and
Kr its first entry below 20 (R26). Ka is the entry of the metering level 1..16 (R22) and Dq that of the speed class 1..4
(R23). The pressure ratio (R29) is 0 where Kp of the cut pressure is 0, lies within 0..1000
and is 1000 at the cut pressure itself; the turn angle (R30) lies within 0..1800, is the same either way round, and is
0 for a straight continuation. -/
def Obligations.FeedTablesRatioAndAngle : Prop :=
  ((∀ (bs vs : List Nat) (x i b0 b1 v0 v1 : Nat), bs.Pairwise (· < ·) → bs.length = vs.length →
     bs[i]? = some b0 → bs[i + 1]? = some b1 → vs[i]? = some v0 → vs[i + 1]? = some v1 → b0 ≤ x → x < b1 →
     (readTable bs vs x : Int) = v0 + Int.tdiv (((v1 : Int) - v0) * ((x : Int) - b0)) ((b1 : Int) - b0) ∧
       min v0 v1 ≤ readTable bs vs x ∧ readTable bs vs x ≤ max v0 v1 ∧ (x = b0 → readTable bs vs x = v0)) ∧
   (∀ (bs vs : List Nat) (x b v : Nat), bs.Pairwise (· < ·) → bs.length = vs.length → bs.getLast? = some b →
     vs.getLast? = some v → b ≤ x → readTable bs vs x = v) ∧
   (∀ (t : FactorTables) (x : Nat), x < 500 → readKp t x = 0) ∧
   (∀ (t : FactorTables) (x : Nat), 500 ≤ x →
     readKp t x = readTable [500, 1000, 1500, 2000, 2500, 3000, 3500, 4000, 4500, 5000, 5500, 6000, 6500] t.kp x) ∧
   (∀ (t : FactorTables) (x : Nat), readKc t x = readTable [0, 200, 400, 600, 800, 1000, 1200, 1400, 1600, 1800] t.kc x) ∧
   (∀ (t : FactorTables) (level v : Nat), 1 ≤ level → t.ka[level - 1]? = some v → readKa t level = v) ∧
   (∀ (t : FactorTables) (cls v : Nat), 1 ≤ cls → t.dq[cls - 1]? = some v → readDq t cls = v) ∧
   (∀ (t : FactorTables) (x v : Nat), x < 20 → t.kr.head? = some v → readKr t x = v) ∧
   ∀ (t : FactorTables) (x : Nat), 20 ≤ x → readKr t x = readTable [20, 50, 100, 200, 500, 1000, 2000, 5000] t.kr x) ∧
  ((∀ (t : FactorTables) (x pCut : Nat),
     (readKp t pCut = 0 → pressureRatio t x pCut = 0) ∧
     (0 < readKp t pCut → pressureRatio t x pCut = min 1000 (1000 * readKp t x / readKp t pCut)) ∧
     pressureRatio t x pCut ≤ 1000 ∧ (0 < readKp t pCut → pressureRatio t pCut pCut = 1000)) ∧
   ∀ d1 d2 : Nat, d1 ≤ 3599 → d2 ≤ 3599 →
     (turnAngle d1 d2 : Int) = min |(d1 : Int) - d2| (3600 - |(d1 : Int) - d2|) ∧ turnAngle d1 d2 ≤ 1800 ∧
       turnAngle d1 d2 = turnAngle d2 d1 ∧ turnAngle d1 d1 = 0)

/-! ## POST -/

/-- The seven checks of POST (R34, R46, R47, R48, R49): the first that fails gives the refusal, BELOW_FLOOR with the
computed feed, and the lane is left as it was. -/
def Obligations.PostIsCheckedInOrder : Prop :=
  ∀ (L : Lane) (segId : Nat) (body : PostBody) (s : State), s.hands L.port (.post L segId body) = true →
    let q := (s.lane L).seq
    let cutFits (c : Cut) : Prop :=
      1 ≤ c.length ∧ c.length ≤ 600000 ∧ c.entryDir ≤ 3599 ∧ c.exitDir ≤ 3599 ∧ c.quality ≤ 7
    let inRange : Prop :=
      match body with
      | .known (.traverse length) => 1 ≤ length ∧ length ≤ 600000
      | .known (.pierce none) => True
      | .known (.pierce (some dwell)) => 100 ≤ dwell ∧ dwell ≤ 30000
      | .known (.line c) => cutFits c ∧ c.entryDir = c.exitDir
      | .known (.arc c radius) => cutFits c ∧ 5 ≤ radius ∧ radius ≤ 50000
      | .unknownKind _ => False
    let follows : Prop := ∀ n, q.lastSegId = some n → segId = (n + 1) % 65536
    let agrees : Prop :=
      match body with
      | .known (.line _) => q.postedJet = true
      | .known (.arc _ _) => q.postedJet = true
      | _ => q.postedJet = false
    let feed : Nat :=
      match body with
      | .known seg => segmentFeed s.config.tables (s.recipe L) seg
      | .unknownKind _ => 0
    let isCut : Prop :=
      match body with
      | .known (.line _) => True
      | .known (.arc _ _) => True
      | _ => False
    let refused (result : Result) (answer : List Byte) : Prop :=
      exec (.post L segId body) s = .next (s.answeredAt L.port kindPost result answer)
    (s.laneState L = .closed → refused .noJob []) ∧
    (s.laneState L = .mirrored → refused .mirrored []) ∧
    (s.jobless L = false →
      (¬ inRange → refused .badField []) ∧
      (inRange →
        (¬ follows → refused .outOfSequence []) ∧
        (follows →
          (¬ agrees → refused .jetState []) ∧
          (agrees →
            ((s.queueRegion L).size ≤ s.fill L → refused .queueFull []) ∧
            (s.fill L < (s.queueRegion L).size → isCut → feed < (s.recipe L).feedFloor →
              refused .belowFloor (beBytes 2 segId ++ beBytes 2 feed))))))

/-- An accepted POST (R31, R32, R33, R35, R36, R50, R65): the staged feed of the new entry, the junction of the tail made
final towards it, the entry at the put index, the last seg_id and the posted jet state, and the OK reply; with a NEXT
pending a release attempt follows. The arbiter's part closes an event that made an attempt or filled an empty queue. The event's end counts the last tick once its expiries are
taken (log entry 16). -/
def Obligations.AcceptedPostIsQueued : Prop :=
  ∀ (L : Lane) (segId : Nat) (seg : Segment) (s : State), s.hands L.port (.post L segId (.known seg)) = true →
    let t := s.config.tables
    let r := s.recipe L
    let q := (s.lane L).seq
    let straight (c : Cut) : Nat :=
      r.sb * readKp t r.pCut * readKa t r.lCut / (1000 * readDq t (t.qualityMap.getD c.quality 0))
    let closed (c : Cut) (f2 : Nat) : Nat := if c.closing then f2 * r.closingFactor / 1000 else f2
    let clamped (f3 : Nat) : Nat := if f3 = 0 then 1 else if 6000 < f3 then 6000 else f3
    let feed : Nat :=
      match seg with
      | .line c => clamped (closed c (straight c))
      | .arc c radius => clamped (closed c (straight c * readKr t radius / 1000))
      | _ => 0
    let cut? : Option Cut :=
      match seg with
      | .line c => some c
      | .arc c _ => some c
      | _ => none
    let entry : Entry :=
      match cut? with
      | some c =>
        { segId := segId, seg := seg, fSeg := feed
          fJunc := if c.endJetOff then 0 else feed
          junction := if c.endJetOff then .final else .provisional }
      | none => { segId := segId, seg := seg, fSeg := 0, fJunc := 0, junction := .final }
    let finalised : Option Entry :=
      match (s.lane L).queue.entries.getLast?, cut? with
      | some e, some c =>
        match e.junction, e.seg with
        | .provisional, .line d =>
          some { e with
            fJunc := min e.fSeg feed * readKc t (turnAngle d.exitDir c.entryDir) / 1000, junction := .final }
        | .provisional, .arc d _ =>
          some { e with
            fJunc := min e.fSeg feed * readKc t (turnAngle d.exitDir c.entryDir) / 1000, junction := .final }
        | _, _ => none
      | _, _ => none
    let before : List Entry :=
      match finalised with
      | some e => (s.lane L).queue.entries.dropLast ++ [e]
      | none => (s.lane L).queue.entries
    let region := s.queueRegion L
    let jet : Bool :=
      match seg with
      | .traverse _ => q.postedJet
      | .pierce _ => true
      | .line c => !c.endJetOff
      | .arc c _ => !c.endJetOff
    let stored (u : LaneUnit) : LaneUnit :=
      { u with
        queue := { u.queue with
          entries := before ++ [entry]
          put := if u.queue.put + 1 < region.start + region.size then u.queue.put + 1 else region.start }
        seq := { u.seq with lastSegId := some segId, postedJet := jet } }
    let answer : List Byte :=
      beBytes 2 segId ++ beBytes 2 feed ++
        match finalised with
        | some e => [0x01#8] ++ beBytes 2 e.segId ++ beBytes 2 e.fJunc
        | none => [0x00#8, 0x00#8, 0x00#8, 0x00#8, 0x00#8]
    let t' := (s.answeredAt L.port kindPost .ok answer).modLane L stored
    s.jobless L = false → postInRange (.known seg) = true → followsLast q.lastSegId segId = true →
    jetAgrees seg q.postedJet = true → s.fill L < region.size →
    (cut?.isSome = true → r.feedFloor ≤ feed) →
    exec (.post L segId (.known seg)) s =
      .next
        (if q.nextPending then (t'.attempt L false).conclude
        else if (s.lane L).queue.entries = [] then t'.conclude
        else t')

/-! ## NEXT and the release attempt -/

/-- NEXT (R63, R64): the five checks in their order. A taken NEXT sets next_pending; in STOPPING it is held with reason
STOPPING; in READY and OPEN_IDLE a release attempt runs (R66, R67, R68), of which no RELEASE notice is sent, and the
arbiter's part follows, which sends none for a PIERCE of this lane that it grants. The reply goes out before the notices
of the event: WAITING with the wait reason at the event's end, or RELEASED with the queue head; an attempt that starts a
repierce is WAITING(PIERCE_QUEUE). Heads that do not arise stay where they are, and a peer in PIERCING with no grant held fails
the peer condition (log entry 14). The last clauses say what the arbiter's part of a NEXT is: that of every event, but that
a grant to this lane is told by the reply. The event's end counts the last tick once its expiries are
taken (log entry 16). -/
def Obligations.NextAnswersOrWaits : Prop :=
  (∀ (L : Lane) (s : State), s.hands L.port (.next L) = true →
    let q := (s.lane L).seq
    let region := s.queueRegion L
    let refused (result : Result) : Prop := exec (.next L) s = .next (s.answeredAt L.port kindNext result [])
    let taken (body : List Byte) : State :=
      (s.answeredAt L.port kindNext .ok body).modSeq L fun q => { q with nextPending := true }
    let waits (w : WaitReason) (t : State) : State := t.modSeq L fun q => { q with wait := w }
    let released (e : Entry) (t : State) : State :=
      (if 0 < s.watermark L ∧ s.fill L = s.watermark L then t.raiseHead L .queueLow else t).modLane L fun u =>
        { u with
          queue :=
            { entries := u.queue.entries.tail, put := u.queue.put,
              get := if u.queue.get + 1 < region.start + region.size then u.queue.get + 1 else region.start }
          seq := { u.seq with released := .segment e, elapsed := some 0, nextPending := false, wait := .none } }
    let unflagged (t : State) : State := t.modSeq L fun q => { q with repierceFlag := false, repierceKind := none }
    let asked (kind : PierceKind) (t : State) : State :=
      waits .pierceQueue
        (if s.arbiter.queue.any fun e => e.lane == L then t
        else
          t.modArbiter fun a =>
            { a with
              queue := a.queue ++
                [{ lane := L, kind := kind, pressure := (s.recipe L).pPierce,
                   waitTimer := some s.config.timing.pierceWaitLimit, noticeGiven := false }] })
    let close (t : State) : State := (t.arbitrateFor (some L) (t.arbiter.queue.length + 1)).closeTick
    let repierces : Prop :=
      s.laneState L = .ready ∧ q.repierceFlag = true ∧ ∃ e, s.queueHead L = some e ∧ Segment.isCut e.seg = true
    let attempted (attempt : State → State) : Prop :=
      (q.nextPending = true → refused .alreadyPending) ∧
      (q.nextPending = false →
        ∃ body, exec (.next L) s = .next (close (attempt (taken body))) ∧
          let final := ((close (attempt (taken body))).lane L).seq
          (repierces → body = [0x01#8, 0x03#8]) ∧
          (¬ repierces → final.nextPending = true → body = [0x01#8, byte (waitReasonCode final.wait)]) ∧
          (¬ repierces → final.nextPending = false → ∀ e, s.queueHead L = some e →
            body =
              [0x00#8] ++ beBytes 2 e.segId ++ [byte (segmentKindCode e.seg)] ++ beBytes 2 e.fSeg ++
                beBytes 2 e.fJunc))
    match s.laneState L with
    | .mirrored => refused .mirrored
    | .closed => refused .noJob
    | .fault => refused .faulted
    | .stopping =>
      (q.nextPending = true → refused .alreadyPending) ∧
      (q.nextPending = false → exec (.next L) s = .next (waits .stopping (taken [0x01#8, 0x04#8])))
    | .ready =>
      match s.queueHead L with
      | none => attempted (waits .empty)
      | some e =>
        match e.seg with
        | .traverse _ =>
          attempted fun t => (released e (unflagged t)).modSeq L fun q => { q with state := .traversing }
        | .pierce _ => attempted fun t => asked .full (unflagged t)
        | _ =>
          (∀ kind, q.repierceFlag = true → q.repierceKind = some kind → attempted (asked kind)) ∧
          (q.repierceFlag = false ∨ q.repierceKind = none → attempted fun t => t)
    | .openIdle =>
      match s.queueHead L with
      | none => attempted (waits .empty)
      | some e =>
        (Segment.isCut e.seg = false → attempted fun t => t) ∧
        (Segment.isCut e.seg = true →
          match e.junction with
          | .provisional => attempted (waits .lookahead)
          | .final =>
            attempted fun t => (released e t).modLane L fun u =>
              { u with
                seq := { u.seq with state := .cutting, stallTimer := none, stepCount := 0 }
                gov := { u.gov with lastSent := 1000, segmentMin := some 1000 } })
    | _ => if q.nextPending = true then refused .alreadyPending else refused .busy) ∧
  ∀ (L : Lane) (s : State),
    let part (t : State) : State := t.arbitrateFor (some L) (t.arbiter.queue.length + 1)
    let withheld : Prop := s.arbiter.holder ≠ none ∨ s.inhibit = true ∨ s.monitor.lost = true
    let otherFeed (L : Lane) : Option Nat :=
      match s.laneState L, (s.lane L).seq.released, s.queueHead L with
      | .cutting, .segment e, _ => some e.fSeg
      | .openIdle, _, some e => if Segment.isCut e.seg then some e.fSeg else none
      | _, _, _ => none
    let shares (L : Lane) (pressure : Nat) : Prop :=
      ∃ f, otherFeed L = some f ∧
        (s.recipe L).feedFloor ≤ f * pressureRatio s.config.tables pressure (s.recipe L).pCut / 1000
    let peer (e : PierceEntry) : Prop :=
      match s.laneState e.lane.other with
      | .cutting => shares e.lane.other e.pressure
      | .openIdle => shares e.lane.other e.pressure
      | .stopping => False
      | .piercing _ => False
      | _ => True
    (s.arbiter.queue = [] ∨ withheld → part s = s.retarget) ∧
    ∀ e behind, s.arbiter.queue = e :: behind → ¬ withheld →
      (¬ peer e → part s = s.arbitrate) ∧
      (peer e → part s = part (s.grant e behind (decide (e.lane = L))))

/-- RELEASE_ATTEMPT (R51, R65, R66, R67, R68, R69, R94): without a pending NEXT, and in any state but READY and OPEN_IDLE,
nothing is released; otherwise the queue head and the repierce flag decide: the wait reason, the release with its
notice and QUEUE_LOW when the fill falls below the watermark, or the pierce asked for. The arbiter's part follows. A LINE
or ARC in READY with the repierce flag clear, and a TRAVERSE or PIERCE in OPEN_IDLE, do not arise (log entry 14). That the
attempt is a command of its own, which may come at any time, tells of a release by a notice and is followed by the
arbiter's part, is the model's choice (log entry 26). The event's end counts the last tick once its expiries are
taken (log entry 16). -/
def Obligations.ReleaseAttemptFollowsTheHead : Prop :=
  ∀ (L : Lane) (s : State), s.resetInput = false →
    let q := (s.lane L).seq
    let region := s.queueRegion L
    let waits (w : WaitReason) (t : State) : State := t.modSeq L fun q => { q with wait := w }
    let told (e : Entry) (t : State) : State :=
      t.send L.port.link kindRelease
        (beBytes 2 e.segId ++ [byte (segmentKindCode e.seg)] ++ beBytes 2 e.fSeg ++ beBytes 2 e.fJunc)
    let low (t : State) : State :=
      if 0 < s.watermark L ∧ s.fill L = s.watermark L then t.raiseHead L .queueLow else t
    let released (e : Entry) (u : LaneUnit) : LaneUnit :=
      { u with
        queue :=
          { entries := u.queue.entries.tail, put := u.queue.put,
            get := if u.queue.get + 1 < region.start + region.size then u.queue.get + 1 else region.start }
        seq := { u.seq with released := .segment e, elapsed := some 0, nextPending := false, wait := .none } }
    let unflagged (u : LaneUnit) : LaneUnit :=
      { u with seq := { u.seq with repierceFlag := false, repierceKind := none } }
    let asked (kind : PierceKind) (t : State) : State :=
      waits .pierceQueue
        (if s.arbiter.queue.any fun e => e.lane == L then t
        else
          t.modArbiter fun a =>
            { a with
              queue := a.queue ++
                [{ lane := L, kind := kind, pressure := (s.recipe L).pPierce,
                   waitTimer := some s.config.timing.pierceWaitLimit, noticeGiven := false }] })
    let outcome (t : State) : Prop := exec (.releaseAttempt L) s = .next t.conclude
    (q.nextPending = false → outcome s) ∧
    (q.nextPending = true → s.laneState L ≠ .ready → s.laneState L ≠ .openIdle → outcome s) ∧
    (q.nextPending = true → s.laneState L = .ready →
      match s.queueHead L with
      | none => outcome (waits .empty s)
      | some e =>
        match e.seg with
        | .traverse _ =>
          outcome (told e ((low (s.modLane L fun u => released e (unflagged u))).modSeq L fun q =>
            { q with state := .traversing }))
        | .pierce _ => outcome (asked .full (s.modLane L unflagged))
        | _ => ∀ kind, q.repierceFlag = true → q.repierceKind = some kind → outcome (asked kind s)) ∧
    (q.nextPending = true → s.laneState L = .openIdle →
      match s.queueHead L with
      | none => outcome (waits .empty s)
      | some e =>
        Segment.isCut e.seg = true →
          match e.junction with
          | .provisional => outcome (waits .lookahead s)
          | .final =>
            outcome (told e ((low (s.modLane L (released e))).modLane L fun u =>
              { u with
                seq := { u.seq with state := .cutting, stallTimer := none, stepCount := 0 }
                gov := { u.gov with lastSent := 1000, segmentMin := some 1000 } })))

/-! ## The ends of segments -/

/-- A completion record reaches its FIFO (R55): into an empty one with COMPLETION_READY, behind the newest while there is
room, and at a full one lost under KEEP or in the oldest record's place under OVERWRITE, either with COMPLETION_LOST and
one in COMPLETIONS_LOST; nothing else changes. What a lane released ends in one record (R53, R54): its kind, seg_id,
outcome and timestamp, the elapsed count since its release, the segment minimum of a LINE or ARC and the step count of
anything but a TRAVERSE; with nothing released there is no record. The end of a released item writes that record, if there
is one. -/
def Obligations.RecordsAreWrittenAndStored : Prop :=
  (∀ (s : State) (L : Lane) (r : Record),
     let fifo := (s.lane L).fifo
     let size := (s.fifoRegion L).size
     let holds (records : List Record) : State := s.modLane L fun u => { u with fifo := records }
     let lost (t : State) : State :=
       (t.modLane L fun u =>
         { u with
           counters :=
             { u.counters with completionsLost := min 4294967295 (u.counters.completionsLost + 1) } }).raiseHead L
         .completionLost
     (fifo = [] → s.writeRecord L r = (holds [r]).raiseHead L .completionReady) ∧
     (fifo ≠ [] → fifo.length < size → s.writeRecord L r = holds (fifo ++ [r])) ∧
     (fifo ≠ [] → size ≤ fifo.length → s.fifoMode L = .keep → s.writeRecord L r = lost s) ∧
     (fifo ≠ [] → size ≤ fifo.length → s.fifoMode L = .overwrite →
       s.writeRecord L r = lost (holds (fifo.tail ++ [r])))) ∧
  (∀ (s : State) (L : Lane) (outcome : RecordEnd),
     s.recordReleased L outcome =
       match s.releasedRecord L outcome with
       | some r => s.writeRecord L r
       | none => s) ∧
  (∀ (s : State) (L : Lane) (outcome : RecordEnd),
     let q := (s.lane L).seq
     match q.released with
     | .none => s.releasedRecord L outcome = none
     | .repierce segId _ =>
       ∀ n, q.elapsed = some n →
         s.releasedRecord L outcome =
           some { segId := segId, kind := .repierce, outcome := outcome, timestamp := s.timestamp, elapsed := n,
                  minOverride := none, steps := some q.stepCount, discarded := none }
     | .segment e =>
       ∀ n, q.elapsed = some n →
         match e.seg with
         | .traverse _ =>
           s.releasedRecord L outcome =
             some { segId := e.segId, kind := .traverse, outcome := outcome, timestamp := s.timestamp, elapsed := n,
                    minOverride := none, steps := none, discarded := none }
         | .pierce _ =>
           s.releasedRecord L outcome =
             some { segId := e.segId, kind := .pierce, outcome := outcome, timestamp := s.timestamp, elapsed := n,
                    minOverride := none, steps := some q.stepCount, discarded := none }
         | .line _ =>
           ∀ lowest, (s.lane L).gov.segmentMin = some lowest →
             s.releasedRecord L outcome =
               some { segId := e.segId, kind := .line, outcome := outcome, timestamp := s.timestamp, elapsed := n,
                      minOverride := some lowest, steps := some q.stepCount, discarded := none }
         | .arc _ _ =>
           ∀ lowest, (s.lane L).gov.segmentMin = some lowest →
             s.releasedRecord L outcome =
               some { segId := e.segId, kind := .arc, outcome := outcome, timestamp := s.timestamp, elapsed := n,
                      minOverride := some lowest, steps := some q.stepCount, discarded := none })

/-- DONE (R70, R71, R72, R73): judged by the lane's state and the released seg_id. A taken DONE writes the record, counts
the segment and the length of a cut, ends the released segment with its starvation, and moves the lane on: a TRAVERSE to
READY, a cut without END_JET_OFF to OPEN_IDLE with the stall timer started, a cut with END_JET_OFF to STOPPING with the
metering stopped and the purge timer started. The arbiter's part follows. A purge of 0 ends in the event, with the valve
closed, READY entered and a release attempt made (`endPurge`). The event's end counts the last tick once its expiries are
taken (log entry 16). -/
def Obligations.DoneEndsTheSegment : Prop :=
  ∀ (L : Lane) (segId : Nat) (s : State), s.hands L.port (.done L segId) = true →
    let q := (s.lane L).seq
    let refused (result : Result) : Prop := exec (.done L segId) s = .next (s.answeredAt L.port kindDone result [])
    let recorded : State := (s.answeredAt L.port kindDone .ok []).recordReleased L .done
    let counted (length : Nat) (c : LaneCounters) : LaneCounters :=
      { c with
        segmentsDone := min 4294967295 (c.segmentsDone + 1), cutLength := min 4294967295 (c.cutLength + length) }
    let ended (length : Nat) (u : LaneUnit) : LaneUnit :=
      { u with
        seq := { u.seq with released := .none, elapsed := none }
        gov := { u.gov with starved := false, starvationTimer := none, segmentMin := none }
        counters := counted length u.counters }
    let outcome (t : State) : Prop := exec (.done L segId) s = .next t.conclude
    let cutDone (c : Cut) : Prop :=
      if c.endJetOff then
        let stopping := ((recorded.modLane L (ended c.length)).meterStop L).modSeq L fun q => { q with state := .stopping }
        ((s.recipe L).purge ≠ 0 →
          outcome (stopping.modSeq L fun q => { q with purgeTimer := some (s.recipe L).purge })) ∧
        ((s.recipe L).purge = 0 → outcome (stopping.endPurge L))
      else
        outcome (recorded.modLane L fun u =>
          let v := ended c.length u
          { v with seq := { v.seq with state := .openIdle, stallTimer := some s.config.timing.stallLimit } })
    let judged : Prop :=
      match q.released with
      | .segment e =>
        (e.segId ≠ segId → refused .wrongSegment) ∧
        (e.segId = segId →
          match e.seg with
          | .line c => cutDone c
          | .arc c _ => cutDone c
          | _ =>
            outcome ((recorded.meterStop L).modLane L fun u =>
              { u.atReady with
                counters :=
                  { u.counters with segmentsDone := min 4294967295 (u.counters.segmentsDone + 1) } }))
      | _ => refused .wrongSegment
    match s.laneState L with
    | .mirrored => refused .mirrored
    | .cutting => judged
    | .traversing => judged
    | .piercing _ => refused .wrongSegment
    | _ => refused .nothingReleased

/-- RESUME (R83, R84): the checks in their order; a taken one brings the lane to READY without a fault cause, and owes a
repierce exactly when the posted jet state is ON or the queue head is a LINE or ARC: FULL after a faulted PIERCE or
FULL repierce, KERF otherwise. The arbiter's part follows. The event's end counts the last tick once its expiries are
taken (log entry 16). -/
def Obligations.ResumeOwesTheRepierce : Prop :=
  ∀ (L : Lane) (s : State), s.hands L.port (.resume L) = true →
    let q := (s.lane L).seq
    let present : Prop :=
      q.faultCause = some .pumpLoss ∧ s.monitor.lost = true ∨ q.faultCause = some .inhibit ∧ s.inhibit = true
    let headCut : Bool :=
      match s.queueHead L with
      | some e => Segment.isCut e.seg
      | none => false
    let owed : Bool := q.postedJet || headCut
    let kind : PierceKind :=
      match q.lastFaulted with
      | some .pierce => .full
      | some (.repierce .full) => .full
      | _ => .kerf
    let refused (result : Result) : Prop := exec (.resume L) s = .next (s.answeredAt L.port kindResume result [])
    match s.laneState L with
    | .mirrored => refused .mirrored
    | .fault =>
      (present → refused .causePresent) ∧
      (¬ present →
        exec (.resume L) s =
          .next (((s.answeredAt L.port kindResume .ok []).meterStop L).modLane L fun u =>
            { u.atReady with
              seq := { u.seq.atReady with
                faultCause := none, repierceFlag := owed, repierceKind := if owed then some kind else none } }).conclude)
    | _ => refused .notFaulted

/-- ABORT from a head port and from the cell port (R52, R54, R85, R86): the checks in their order. A taken one stops the
metering, writes the released segment's record ABORTED, gives the grant back and takes the lane's entry out of the pierce
queue, discards the lane queue, counts what ended, writes the ABORT record behind, and brings the lane to READY with
nothing posted, pending or owed and no fault cause; the job, the last seg_id and the last faulted kind stay. The arbiter's
part follows. The event's end counts the last tick once its expiries are
taken (log entry 16). -/
def Obligations.AbortClearsTheLane : Prop :=
  ∀ (source : AbortSource) (s : State),
    let p : Port :=
      match source with
      | .head L => L.port
      | .cell _ => .C
    s.hands p (.abort source) = true →
    let refused (result : Result) : Prop := exec (.abort source) s = .next (s.answeredAt p kindAbort result [])
    let taken (L : Lane) : Prop :=
      let q := (s.lane L).seq
      let held := (s.lane L).queue.entries.length
      let segments : Nat :=
        match q.released with
        | .segment _ => 1
        | _ => 0
      let segId : Nat :=
        match q.released with
        | .segment e => e.segId
        | .repierce segId _ => segId
        | .none => q.lastSegId.getD 0
      let start := (s.queueRegion L).start
      let first := ((s.answeredAt p kindAbort .ok []).meterStop L).recordReleased L .aborted
      let freed := first.modArbiter fun a =>
        { a with
          holder := if (a.holder.map Holder.lane) = some L then none else a.holder
          queue := a.queue.filter fun e => e.lane != L }
      let counted := freed.modLane L fun u =>
        { u with
          counters := { u.counters with
            segmentsEndedOther :=
              min 4294967295 (min 4294967295 (u.counters.segmentsEndedOther + segments) + held) } }
      let second := counted.writeRecord L
        { segId := segId, kind := .abort, outcome := .aborted, timestamp := s.timestamp, elapsed := 0,
          minOverride := none, steps := none, discarded := some held }
      exec (.abort source) s =
        .next (second.modLane L fun u =>
          { u.atReady with
            queue := { entries := [], put := start, get := start }
            seq := { u.seq.atReady with
              postedJet := false, nextPending := false, wait := .none, repierceFlag := false, repierceKind := none,
              faultCause := none } }).conclude
    let judged (L : Lane) : Prop :=
      match s.laneState L with
      | .mirrored => refused .mirrored
      | .closed => refused .noJob
      | _ => taken L
    match source with
    | .head L => judged L
    | .cell 0 => judged .A
    | .cell 1 => judged .B
    | .cell _ => refused .badField

/-- COMPL_READ (R56): refused MIRRORED or BAD_FIELD, else taken in every state: the k oldest records leave the FIFO, k the
smaller of n and its fill, and the reply holds k and those records, 11 bytes each (R177), oldest first. Nothing else
changes. -/
def Obligations.ComplReadTakesTheOldest : Prop :=
  ∀ (L : Lane) (n : Nat) (s : State), s.hands L.port (.complRead L n) = true →
    let fifo := (s.lane L).fifo
    let k := min n fifo.length
    exec (.complRead L n) s =
        .next
          (if s.laneState L = .mirrored then s.answeredAt L.port kindComplRead .mirrored []
          else if n < 1 ∨ 4 < n then s.answeredAt L.port kindComplRead .badField []
          else
            (s.answeredAt L.port kindComplRead .ok (byte k :: (fifo.take k).flatMap recordBytes)).modLane L fun u =>
              { u with fifo := fifo.drop k }) ∧
      ∀ r : Record,
        recordBytes r =
          beBytes 2 r.segId ++
            [byte ((match r.kind with
                | .traverse => 0
                | .pierce => 16
                | .line => 32
                | .arc => 48
                | .repierce => 64
                | .abort => 80) +
              match r.outcome with
              | .done => 0
              | .aborted => 1
              | .faulted .abrasiveLoss => 2
              | .faulted .pumpLoss => 3
              | .faulted .inhibit => 4
              | .faulted .stall => 5
              | .faulted .starved => 6
              | .faulted .lockTimeout => 7)] ++
            beBytes 2 r.timestamp ++ beBytes 2 r.elapsed ++ beBytes 2 (r.steps.getD 0) ++
            beBytes 2 (match r.kind with
              | .line => r.minOverride.getD 0
              | .arc => r.minOverride.getD 0
              | .abort => r.discarded.getD 0
              | _ => 0)

/-! ## Faults -/

/-- A cause reaches a lane (R80, R81): in a state of its row the lane enters FAULT, with its timers and metering stopped,
its released work recorded FAULTED, its grant and pierce-queue entry gone, its pending NEXT dropped, and its queue,
posted jet state, last seg_id and repierce flag kept; in every other state it is left as it is. The part changes in the
lane, its FIFO's record, the arbiter, the FAULT event and the counts, and nowhere else; in mirror mode lane B's metering
stops with lane A's. The states with the valve open are those of R60, and a lane's valve output is that of its state; lane
B's is that of lane A's state in mirror mode (R165). -/
def Obligations.CausesFaultTheirStates : Prop :=
  ((∀ state : LaneState,
      state.valveOpen = true ↔
        state = .piercing .opened ∨ state = .piercing .dwell ∨ state = .cutting ∨ state = .openIdle ∨
          state = .stopping) ∧
    ∀ s : State,
      s.valve .A = (s.laneState .A).valveOpen ∧
        s.valve .B = (s.laneState (if s.mirror then .A else .B)).valveOpen) ∧
  ∀ (s : State) (L : Lane) (cause : FaultCause),
    let reaches : Prop :=
      match cause with
      | .pumpLoss => (∃ phase, s.laneState L = .piercing phase) ∨ (s.laneState L).valveOpen = true
      | .inhibit => (∃ phase, s.laneState L = .piercing phase) ∨ (s.laneState L).valveOpen = true
      | .abrasiveLoss => (s.laneState L).valveOpen = true
      | .starved => s.laneState L = .cutting
      | .lockTimeout => s.laneState L = .piercing .ramp
      | .stall => s.laneState L = .openIdle
    let released := (s.lane L).seq.released
    let ended : Nat :=
      match released with
      | .segment ⟨_, .traverse _, _, _, _⟩ => 0
      | .segment _ => 1
      | _ => 0
    let kind : Option FaultedKind :=
      match released with
      | .segment ⟨_, .pierce _, _, _, _⟩ => some .pierce
      | .segment ⟨_, .line _, _, _, _⟩ => some .line
      | .segment ⟨_, .arc _ _, _, _, _⟩ => some .arc
      | .repierce _ kind => some (.repierce kind)
      | _ => none
    let recorded := (s.meterStop L).recordReleased L (.faulted cause)
    (¬ reaches → s.faultLane L cause = s) ∧
    (reaches →
      s.faultLane L cause =
        ((recorded.modArbiter fun a =>
            { a with
              holder := if (a.holder.map Holder.lane) = some L then none else a.holder
              queue := a.queue.filter fun e => e.lane != L }).modLane L fun u =>
          { u with
            seq := { u.seq with
              state := .fault, released := .none, elapsed := none, lastFaulted := kind, nextPending := false,
              wait := .none, faultCause := some cause, lockTimer := none, leadTimer := none, dwellTimer := none,
              stallTimer := none, purgeTimer := none }
            gov := { u.gov with starved := false, starvationTimer := none, segmentMin := none }
            counters := { u.counters with
              faults := min 4294967295 (u.counters.faults + 1)
              segmentsEndedOther := min 4294967295 (u.counters.segmentsEndedOther + ended) } }).raiseHead L .fault)

/-- LOCK_TIMEOUT_EXPIRY, STALL_EXPIRY and STARVATION_TIMER_EXPIRY (R73, R75, R141): the timer stops and its cause reaches the
lane. ABRASIVE_LEAD_EXPIRY, DWELL_EXPIRY and PURGE_EXPIRY (R72, R76, R77): the timer ends its phase, OPEN, DWELL or
STOPPING; a purge's end closes the valve, brings the lane to READY and makes a release attempt. Each is followed by the
arbiter's part. PIERCE_WAIT_TIMER_EXPIRY (R103): PIERCE_WAIT_LONG is raised on the lane's own head port, the timer is not
restarted, and the entry keeps its place. A timer that is not due, or that stands in another state, which does not
arise (R60), changes nothing (log entry 2). The event's end counts the last tick once its expiries are
taken (log entry 16). -/
def Obligations.LaneTimersExpire : Prop :=
  (∀ (L : Lane) (s : State), s.resetInput = false →
     let q := (s.lane L).seq
     (q.lockTimer = some 0 →
       exec (.lockTimeoutExpiry L) s =
         .next ((s.modSeq L fun q => { q with lockTimer := none }).faultLane L .lockTimeout).conclude) ∧
     (q.lockTimer ≠ some 0 → exec (.lockTimeoutExpiry L) s = .next s) ∧
     (q.stallTimer = some 0 →
       exec (.stallExpiry L) s =
         .next ((s.modSeq L fun q => { q with stallTimer := none }).faultLane L .stall).conclude) ∧
     (q.stallTimer ≠ some 0 → exec (.stallExpiry L) s = .next s) ∧
     ((s.lane L).gov.starvationTimer = some 0 →
       exec (.starvationTimerExpiry L) s =
         .next ((s.modGov L fun g => { g with starvationTimer := none }).faultLane L .starved).conclude) ∧
     ((s.lane L).gov.starvationTimer ≠ some 0 → exec (.starvationTimerExpiry L) s = .next s)) ∧
  (∀ (L : Lane) (s : State), s.resetInput = false →
     let q := (s.lane L).seq
     let judge (timer : Timer) (state : LaneState) (c : Instr) (t : State) : Prop :=
       (timer = some 0 ∧ q.state = state → exec c s = .next t.conclude) ∧
       (¬ (timer = some 0 ∧ q.state = state) → exec c s = .next s)
     judge q.leadTimer (.piercing .opened) (.abrasiveLeadExpiry L) (s.enterDwell L) ∧
       judge q.dwellTimer (.piercing .dwell) (.dwellExpiry L) (s.endDwell L) ∧
       judge q.purgeTimer .stopping (.purgeExpiry L) (((s.meterStop L).modLane L LaneUnit.atReady).attempt L false)) ∧
  (∀ (L : Lane) (s : State), s.resetInput = false →
     let due : Prop := ∃ e ∈ s.arbiter.queue, e.lane = L ∧ e.waitTimer = some 0
     (¬ due → exec (.pierceWaitTimerExpiry L) s = .next s) ∧
     (due →
       exec (.pierceWaitTimerExpiry L) s =
         .next ((s.modArbiter fun a =>
           { a with
             queue := a.queue.map fun e => if e.lane = L then { e with waitTimer := none } else e }).raiseHead L
           .pierceWaitLong)))

/-! ## The phases of a pierce -/

/-- The phases of a pierce (R75, R76, R77): RAMP starts the lock timeout and the step count and, with the monitor LOCKED
already, opens at once; OPEN counts in PIERCES, stops the lock timeout and starts the abrasive lead, a lead of 0 ending
at once; DWELL starts the metering at L_pierce and the dwell timer, a dwell of 0 ending at once. The dwell is the
segment's own, the recipe's pierce dwell, or the kerf dwell of a KERF repierce. The end of a dwell (R77, R78, R79, R105):
metering to L_cut, the grant given back, the record DONE, the PIERCE_DONE notice, nothing released, OPEN_IDLE with the
stall timer, and one in SEGMENTS_DONE for a PIERCE; for a repierce the flag clears and a release attempt follows. -/
def Obligations.PiercePhasesFollow : Prop :=
  (∀ (s : State) (L : Lane),
     let r := s.recipe L
     let dwell : Nat :=
       match (s.lane L).seq.released with
       | .segment ⟨_, .pierce (some n), _, _, _⟩ => n
       | .repierce _ .kerf => r.kerfDwell
       | _ => r.pierceDwell
     let ramp := s.modSeq L fun q =>
       { q with state := .piercing .ramp, lockTimer := some s.config.timing.lockTimeout, stepCount := 0 }
     let opened := s.modLane L fun u =>
       { u with
         seq := { u.seq with state := .piercing .opened, lockTimer := none }
         counters := { u.counters with pierces := min 4294967295 (u.counters.pierces + 1) } }
     let dwelling := (s.meterStart L r.lPierce).modSeq L fun q => { q with state := .piercing .dwell, leadTimer := none }
     s.enterRamp L = (if s.monitor.locked then ramp.enterOpen L else ramp) ∧
       s.enterOpen L =
         (if r.abrasiveLead = 0 then opened.enterDwell L
         else opened.modSeq L fun q => { q with leadTimer := some r.abrasiveLead }) ∧
       s.enterDwell L =
         (if dwell = 0 then dwelling.endDwell L
         else dwelling.modSeq L fun q => { q with dwellTimer := some dwell })) ∧
  (∀ (s : State) (L : Lane),
     let released := (s.lane L).seq.released
     let segId : Nat :=
       match released with
       | .none => 0
       | .segment e => e.segId
       | .repierce segId _ => segId
     let freed := ((s.modSeq L fun q => { q with dwellTimer := none }).meterLevel L (s.recipe L).lCut).modArbiter fun a =>
       { a with holder := if (a.holder.map Holder.lane) = some L then none else a.holder }
     let told := (freed.recordReleased L .done).send L.port.link kindPierceDone (beBytes 2 segId)
     let idle := told.modLane L fun u =>
       { u with
         seq := { u.seq with
           state := .openIdle, released := .none, elapsed := none, stallTimer := some s.config.timing.stallLimit }
         gov := { u.gov with starved := false, starvationTimer := none, segmentMin := none } }
     match released with
     | .repierce _ _ =>
       s.endDwell L =
         (idle.modSeq L fun q => { q with repierceFlag := false, repierceKind := none }).attempt L false
     | _ =>
       s.endDwell L =
         idle.modLane L fun u =>
           { u with counters := { u.counters with segmentsDone := min 4294967295 (u.counters.segmentsDone + 1) } })

/-- SETTLE_TIMER_EXPIRY (R75, R125, R126, R127): the monitor becomes LOCKED with its settle timer stopped, a lane in RAMP
opens its valve, and the arbiter's part follows; nothing happens while the timer is not due (log entry 2). The event's end counts the last tick once its expiries are
taken (log entry 16). -/
def Obligations.SettleLocksAndOpens : Prop :=
  ∀ s : State, s.resetInput = false →
    let locked := s.modMonitor fun m => { m with locked := true, settleTimer := none }
    let inRamp (L : Lane) : Prop := s.laneState L = .piercing .ramp
    (s.monitor.settleTimer ≠ some 0 → exec .settleTimerExpiry s = .next s) ∧
    (s.monitor.settleTimer = some 0 →
      (¬ inRamp .A → ¬ inRamp .B → exec .settleTimerExpiry s = .next locked.conclude) ∧
      (inRamp .A → ¬ inRamp .B → exec .settleTimerExpiry s = .next (locked.enterOpen .A).conclude) ∧
      (¬ inRamp .A → inRamp .B → exec .settleTimerExpiry s = .next (locked.enterOpen .B).conclude) ∧
      (inRamp .A → inRamp .B →
        exec .settleTimerExpiry s = .next ((locked.enterOpen .A).enterOpen .B).conclude))

/-! ## The arbiter -/

/-- PIERCE_GRANT and every evaluation (R38, R39, R96, R98, R99, R100, R101, R102): the head entry of the pierce queue is
judged on the state as it stands. Without a head, or while the grant is held, the inhibit asserted or the pump lost,
the target is recomputed and nothing else happens; where the peer condition alone fails, PEER_PIERCE_WAITING is raised
once on the other lane's port; otherwise the entry is granted, and the next entry is judged in turn. A peer in PIERCING
with no grant held does not arise (R96); that it fails the peer condition is the model's choice (log entry 14), as is that
the evaluation is a command of its own, which may come at any time (log entry 26). The event's end counts the last tick once its expiries are
taken (log entry 16). -/
def Obligations.HeadEntryIsJudged : Prop :=
  ∀ s : State,
    let withheld : Prop := s.arbiter.holder ≠ none ∨ s.inhibit = true ∨ s.monitor.lost = true
    let otherFeed (L : Lane) : Option Nat :=
      match s.laneState L, (s.lane L).seq.released, s.queueHead L with
      | .cutting, .segment e, _ => some e.fSeg
      | .openIdle, _, some e => if Segment.isCut e.seg then some e.fSeg else none
      | _, _, _ => none
    let shares (L : Lane) (pressure : Nat) : Prop :=
      ∃ f, otherFeed L = some f ∧
        (s.recipe L).feedFloor ≤ f * pressureRatio s.config.tables pressure (s.recipe L).pCut / 1000
    let peer (e : PierceEntry) : Prop :=
      match s.laneState e.lane.other with
      | .cutting => shares e.lane.other e.pressure
      | .openIdle => shares e.lane.other e.pressure
      | .stopping => False
      | .piercing _ => False
      | _ => True
    (s.resetInput = false → exec .pierceGrant s = .next s.conclude) ∧
    (s.arbiter.queue = [] → s.arbitrate = s.retarget) ∧
    (withheld → s.arbitrate = s.retarget) ∧
    ∀ e behind, s.arbiter.queue = e :: behind → ¬ withheld →
      (¬ peer e → e.noticeGiven = true → s.arbitrate = s.retarget) ∧
      (¬ peer e → e.noticeGiven = false →
        s.arbitrate =
          ((s.modArbiter fun a => { a with queue := { e with noticeGiven := true } :: behind }).raiseHead e.lane.other
            .peerPierceWaiting).retarget) ∧
      (peer e → s.arbitrate = (s.grant e behind false).arbitrate)

/-- The grant (R74, R79, R97, R100): the entry leaves the pierce queue, its lane holds the grant with the entry's kind and
pressure, the target is recomputed, and the lane takes it: a PIERCE at the head leaves the lane queue and is released,
told by a RELEASE notice unless the reply to the NEXT tells of it; a LINE or ARC stays at the head and a repierce is
released, told by a RELEASE notice of kind REPIERCE with the NEXT still pending; and phase RAMP begins. -/
def Obligations.GrantReleasesThePierce : Prop :=
  ∀ (s : State) (e : PierceEntry) (behind : List PierceEntry) (told : Bool) (head : Entry),
    s.queueHead e.lane = some head →
    let L := e.lane
    let region := s.queueRegion L
    let held := (s.modArbiter fun a =>
      { a with queue := behind, holder := some { lane := e.lane, kind := e.kind, pressure := e.pressure } }).retarget
    let low (t : State) : State :=
      if 0 < s.watermark L ∧ s.fill L = s.watermark L then t.raiseHead L .queueLow else t
    match head.seg with
    | .pierce _ =>
      let released := low (held.modLane L fun u =>
        { u with
          queue :=
            { entries := u.queue.entries.tail, put := u.queue.put,
              get := if u.queue.get + 1 < region.start + region.size then u.queue.get + 1 else region.start }
          seq := { u.seq with released := .segment head, elapsed := some 0, nextPending := false, wait := .none } })
      s.grant e behind told =
        (if told then released
        else
          released.send L.port.link kindRelease
            (beBytes 2 head.segId ++ [0x01#8] ++ beBytes 2 head.fSeg ++ beBytes 2 head.fJunc)).enterRamp L
    | .traverse _ => True
    | _ =>
      s.grant e behind told =
        ((held.modSeq L fun q => { q with released := .repierce head.segId e.kind, elapsed := some 0 }).send L.port.link
          kindRelease (beBytes 2 head.segId ++ [0x04#8, 0x00#8, 0x00#8, 0x00#8, 0x00#8])).enterRamp L

/-- The target (R106, R108, R109, R117, R126): the first row that applies; a recomputation that yields the value the target
has changes nothing, and another target makes the monitor UNLOCKED and stops the settle, which starts again at once when
the lock conditions of R125 hold against the new target. The ramped setpoint stays where it is. -/
def Obligations.TargetFollowsTheRows : Prop :=
  ∀ s : State,
    let jet (L : Lane) : Prop :=
      s.laneState L = .cutting ∨ s.laneState L = .openIdle ∨ s.laneState L = .stopping
    let m := s.monitor
    let becomes (target : Nat) : Prop :=
      s.retarget =
        if target = s.arbiter.target then s
        else
          { s with
            arbiter := { s.arbiter with target := target }
            monitor := { m with
              locked := false
              settleTimer :=
                if m.lost = false ∧ m.history ≠ [] ∧ m.ramped = target ∧
                    max m.filtered target - min m.filtered target ≤ s.config.timing.band then
                  some s.config.timing.settle
                else none } }
    (s.inhibit = true ∨ m.lost = true ∨ s.jobless .A = true ∧ s.jobless .B = true → becomes 0) ∧
    (s.inhibit = false → m.lost = false → s.jobless .A = false ∨ s.jobless .B = false →
      (∀ h, s.arbiter.holder = some h → becomes h.pressure) ∧
      (s.arbiter.holder = none →
        (jet .A → jet .B → becomes (min (s.recipe .A).pCut (s.recipe .B).pCut)) ∧
        (jet .A → ¬ jet .B → becomes (s.recipe .A).pCut) ∧
        (¬ jet .A → jet .B → becomes (s.recipe .B).pCut) ∧
        (¬ jet .A → ¬ jet .B → becomes s.config.timing.standbyPressure)))

/-! ## The pump -/

/-- FEEDBACK with status RUNNING (R118, R119, R120, R123, R125, R128): the sample, at most 7000, joins the history of at
most 8, whose truncated mean is the filtered pressure, and the ripple window; it restarts the loss timer, clears a loss,
sets the last status and has the lock conditions judged; while the pump was lost the arbiter's part follows. The window
it completes is the business of the statement about ripple. The event's end counts the last tick once its expiries are
taken (log entry 16). -/
def Obligations.ValidSampleIsTaken : Prop :=
  ∀ (pressure : Nat) (s : State), s.resetInput = false → s.monitor.window.length < 63 →
    let p := min 7000 pressure
    let m := s.monitor
    let history := (if m.history.length < 8 then m.history else m.history.tail) ++ [p]
    let filtered := history.sum / history.length
    let target := s.arbiter.target
    let conditions : Prop :=
      m.ramped = target ∧ max filtered target - min filtered target ≤ s.config.timing.band
    let taken (locked : Bool) (settle : Timer) : State :=
      { s with
        monitor := { m with
          history := history, filtered := filtered, window := m.window ++ [p],
          lossTimer := some s.config.timing.lossLimit, lost := false, lossReason := none,
          lastStatus := some .running, locked := locked, settleTimer := settle } }
    let outcome (t : State) : Prop :=
      exec (.feedback pressure 1) s = .next (if m.lost then t.conclude else t.closeTick)
    (conditions →
      outcome (taken m.locked
        (if m.locked = true ∨ m.settleTimer ≠ none then m.settleTimer else some s.config.timing.settle))) ∧
    (¬ conditions → outcome (taken false none))

/-- RIPPLE_WINDOW_COMPLETE, and the FEEDBACK with status RUNNING that is the 64th valid sample of a window (R119, R128, R129):
the window's ripple is stored and the window emptied; the alarm becomes active at the assert threshold, with RIPPLE on
all three ports and one in RIPPLE_ALARMS, and inactive at the deassert threshold, without an event; between the two, and
at an assertion already standing, it stays, without an event. The sample is taken like every other: into the history and
the filtered pressure, the loss timer restarts, a loss is cleared, the last status is set, the lock conditions are judged
(R120, R123, R125), and while the pump was lost the arbiter's part follows. That RIPPLE_WINDOW_COMPLETE is that FEEDBACK,
and with fewer samples in the window has no effect, is the model's choice (log entry 15). The event's end counts the last tick once its expiries are
taken (log entry 16). -/
def Obligations.RippleWindowIsJudged : Prop :=
  ∀ (pressure : Nat) (s : State), s.resetInput = false →
    let p := min 7000 pressure
    let m := s.monitor
    let window := m.window ++ [p]
    let ripple := window.foldl max 0 - window.foldl min 7000
    let history := (if m.history.length < 8 then m.history else m.history.tail) ++ [p]
    let filtered := history.sum / history.length
    let target := s.arbiter.target
    let conditions : Prop :=
      m.ramped = target ∧ max filtered target - min filtered target ≤ s.config.timing.band
    let rises : Prop := s.config.timing.assertThreshold ≤ ripple ∧ m.alarm = false
    let falls : Prop := ripple < s.config.timing.assertThreshold ∧ ripple ≤ s.config.timing.deassertThreshold
    let judged (t : State) : State :=
      if rises then
        let raised := ((t.raiseHead .A .ripple).raiseHead .B .ripple).raiseCell .ripple
        { raised with
          pumpCounters := { s.pumpCounters with rippleAlarms := min 4294967295 (s.pumpCounters.rippleAlarms + 1) } }
      else t
    let taken (locked : Bool) (settle : Timer) : State :=
      judged { s with
        monitor := { m with
          history := history, filtered := filtered, window := [], lastRipple := some ripple,
          alarm := if rises then true else if falls then false else m.alarm,
          lossTimer := some s.config.timing.lossLimit, lost := false, lossReason := none,
          lastStatus := some .running, locked := locked, settleTimer := settle } }
    let outcome (t : State) : Prop :=
      exec (.rippleWindowComplete pressure) s = .next (if m.lost then t.conclude else t.closeTick) ∧
        exec (.feedback pressure 1) s = .next (if m.lost then t.conclude else t.closeTick)
    (m.window.length ≠ 63 → exec (.rippleWindowComplete pressure) s = .next s) ∧
    (m.window.length = 63 →
      (conditions →
        outcome (taken m.locked
          (if m.locked = true ∨ m.settleTimer ≠ none then m.settleTimer else some s.config.timing.settle))) ∧
      (¬ conditions → outcome (taken false none)))

/-- A pump loss (R118, R121, R122): a FEEDBACK with another status counts in SAMPLES_BAD and sets the last status; it, or
the loss timer's expiry, declares a pump that is not lost lost, with its reason: the monitor's view is emptied, the
loss timer and the settle stop, PUMP_LOSS is raised on every port and counted, PUMP_LOSS reaches both lanes, and the
arbiter's part follows. A pump already lost is not declared lost again. That the expiry of a loss timer that is not due
changes nothing is the model's choice (log entry 2). The event's end counts the last tick once its expiries are
taken (log entry 16). -/
def Obligations.PumpLossIsDeclared : Prop :=
  ∀ (s : State), s.resetInput = false →
    let declared (t : State) (reason : LossReason) : State :=
      if t.monitor.lost then t
      else
        let emptied := t.modMonitor fun m =>
          { m with
            lost := true, lossReason := some reason, lossTimer := none, history := [], filtered := 0, window := [],
            alarm := false, locked := false, settleTimer := none }
        let raised := ((emptied.raiseHead .A .pumpLoss).raiseHead .B .pumpLoss).raiseCell .pumpLoss
        let counted : State :=
          { raised with
            pumpCounters :=
              { raised.pumpCounters with lossEvents := min 4294967295 (raised.pumpCounters.lossEvents + 1) } }
        ((counted.faultLane .A .pumpLoss).faultLane .B .pumpLoss).conclude
    let bad (status : PumpStatus) : State :=
      { s with
        pumpCounters := { s.pumpCounters with samplesBad := min 4294967295 (s.pumpCounters.samplesBad + 1) }
        monitor := { s.monitor with lastStatus := some status } }
    (∀ pressure, exec (.feedback pressure 2) s = .next (declared (bad .stopped) .stopped)) ∧
    (∀ pressure, exec (.feedback pressure 3) s = .next (declared (bad .tripped) .tripped)) ∧
    (∀ pressure status, status ≠ 1 → status ≠ 2 → status ≠ 3 →
      exec (.feedback pressure status) s = .next (declared (bad .badStatus) .badStatus)) ∧
    (s.monitor.lossTimer = some 0 → exec .lossTimerExpiry s = .next (declared s .timeout)) ∧
    (s.monitor.lossTimer ≠ some 0 → exec .lossTimerExpiry s = .next s)

/-! ## The timebase and the governors -/

/-- TIMEBASE_TICK (R59, R89, R116, R125, R126, R133, R167): every timer counts a tick, the elapsed counts rise to at most
65535, the timestamp rises by one or wraps to 0 with TIME_WRAP, the governor period steps and an evaluation falls due where
it returns to 0, and the ramped setpoint takes a step toward the target and goes out in a SETPOINT with the run flag; the
first SETPOINT after a start carries 0 with the flag clear, whatever the target (R194), no step being taken (log entry 27).
The lock conditions are judged on the new setpoint: where they fail the monitor is UNLOCKED with the settle stopped, and
where they hold an UNLOCKED monitor with the settle stopped starts it. VALVE_OPEN_MS counts the tick where the valve is
open, lane B's as lane A's in mirror mode: the first clause says when, at the tick or at the end of the event that takes the
last expiry of the tick that can move a valve, with the valves as they then stand (log entry 16). Nothing else changes. The
model's choices: the expiries that are outstanding are taken before the next tick, in the order of the last clause (log entry
2), and the order within the tick (log entry 16). TIMESTAMP_WRAP (R59) is the tick that finds the timestamp at 65535; no such
event comes at any other timestamp (log entry 17). -/
def Obligations.TicksAndWraps : Prop :=
  (∀ s : State,
     let expires (u : LaneUnit) : Prop :=
       u.seq.lockTimer = some 0 ∨ u.seq.leadTimer = some 0 ∧ u.seq.state = .piercing .opened ∨
         u.seq.dwellTimer = some 0 ∧ u.seq.state = .piercing .dwell ∨ u.seq.stallTimer = some 0 ∨
         u.seq.purgeTimer = some 0 ∧ u.seq.state = .stopping ∨ u.gov.starvationTimer = some 0 ∨
         u.mon.windowTimer = some 0
     let remains : Prop :=
       s.monitor.lossTimer = some 0 ∧ s.monitor.lost = false ∨ s.monitor.settleTimer = some 0 ∨ expires s.laneA ∨
         expires s.laneB
     let valveTick (L : Lane) (u : LaneUnit) : LaneUnit :=
       { u with
         counters := { u.counters with
           valveOpenMs :=
             if s.valve L then min 4294967295 (u.counters.valveOpenMs + 1) else u.counters.valveOpenMs } }
     let counted : State :=
       { s with laneA := valveTick .A s.laneA, laneB := valveTick .B s.laneB, valveDue := false }
     s.conclude = s.arbitrate.closeTick ∧
       (s.valveDue = false → s.closeTick = s ∧ s.countTick = s) ∧
       (s.valveDue = true → s.countTick = counted ∧ (remains → s.closeTick = s) ∧ (¬ remains → s.closeTick = counted))) ∧
  (∀ s : State, s.resetInput = false →
     let d := s.takeDue.countTick
     let counts (timer : Timer) : Timer :=
       match timer with
       | some (n + 1) => some n
       | other => other
     let m := d.monitor
     let target := d.arbiter.target
     let step := d.config.timing.rampStep
     let run : Bool := m.streaming && decide (0 < target)
     let ramped : Nat :=
       if m.streaming = false then 0
       else if m.ramped ≤ target then min target (m.ramped + step)
       else max target (m.ramped - step)
     let conditions : Prop :=
       m.lost = false ∧ m.history ≠ [] ∧ ramped = target ∧
         max m.filtered target - min m.filtered target ≤ d.config.timing.band
     let settle := counts m.settleTimer
     let heard (u : PortUnit) : PortUnit := { u with rx := { state := u.rx.state, gapTimer := counts u.rx.gapTimer } }
     let lane (u : LaneUnit) : LaneUnit :=
       let q := u.seq
       { u with
         seq := { q with
           lockTimer := counts q.lockTimer, leadTimer := counts q.leadTimer, dwellTimer := counts q.dwellTimer,
           stallTimer := counts q.stallTimer, purgeTimer := counts q.purgeTimer,
           elapsed := q.elapsed.map fun n => min 65535 (n + 1) }
         gov := { u.gov with starvationTimer := counts u.gov.starvationTimer }
         gen := { u.gen with slotTimer := counts u.gen.slotTimer }
         mon := { u.mon with
           windowTimer := counts u.mon.windowTimer
           grace :=
             match u.mon.grace with
             | .running (n + 1) => .running n
             | .expiring => .expired
             | other => other }
         filter := { u.filter with timer := counts u.filter.timer } }
     let counted : State :=
       { d with
         timestamp := if d.timestamp < 65535 then d.timestamp + 1 else 0
         period := (d.period + 1) % 10
         evaluationDue := decide ((d.period + 1) % 10 = 0)
         valveDue := true
         laneA := lane d.laneA
         laneB := lane d.laneB
         arbiter := { d.arbiter with
           queue := d.arbiter.queue.map fun e => { e with waitTimer := counts e.waitTimer } }
         monitor := { m with
           ramped := ramped
           lastRun := run
           streaming := true
           lossTimer := counts m.lossTimer
           locked := if conditions then m.locked else false
           settleTimer :=
             if conditions then
               if m.locked = true ∨ settle ≠ none then settle else some d.config.timing.settle
             else none }
         portA := heard d.portA
         portB := heard d.portB
         portC := heard d.portC
         pumpRx := { state := d.pumpRx.state, gapTimer := counts d.pumpRx.gapTimer }
         pumpTx := d.pumpTx ++ [wire 0x60#8 (beBytes 2 ramped ++ [if run then 0x01#8 else 0x00#8])] }
     let ticked := if d.timestamp < 65535 then counted else counted.raiseCell .timeWrap
     let t := ticked.closeTick
     exec .timebaseTick s = .next t ∧
       (s.timestamp = 65535 → exec .timestampWrap s = .next t ∧ t.timestamp = 0 ∧ t.cellPending .timeWrap = true) ∧
       (s.timestamp ≠ 65535 → exec .timestampWrap s = .next s)) ∧
  ∀ s : State, s.resetInput = false →
    let each (expiries : List (Lane → Instr)) : List Instr := expiries.flatMap fun c => [c .A, c .B]
    let outstanding : List Instr :=
      [.gapTimerExpiry .A, .gapTimerExpiry .B, .gapTimerExpiry .C, .gapTimerExpiry .pump, .lossTimerExpiry,
        .settleTimerExpiry] ++
      each [.lockTimeoutExpiry, .abrasiveLeadExpiry, .dwellExpiry, .stallExpiry, .purgeExpiry, .starvationTimerExpiry,
        .pierceWaitTimerExpiry, .slotTimerExpiry, .flowFilterExpiry, .graceTimerExpiry, .windowTimerExpiry] ++
      [.governorEvaluation]
    outstanding.foldl
        (fun (o : Host.Outcome State Fault Refusal) c =>
          match o with
          | .next t => exec c t
          | stopped => stopped)
        (.next s) =
      .next s.takeDue

/-- GOVERNOR_EVALUATION (R133, R134, R136, R137, R138, R139, R142): at an evaluation tick each lane in CUTTING or OPEN_IDLE
gets its override, the pressure ratio of the filtered pressure derated while the ripple alarm is active; starvation
begins, goes on or ends by the scaled feed of the released segment, and an OVERRIDE notice tells of a change by the
override step or of the return to 1000. Every other lane is left alone. That the
evaluation is due until it is made and comes to nothing at any other time, by a field of the model's own, is the model's
choice (log entries 2 and 24). The event's end counts the last tick once its expiries are
taken (log entry 16). -/
def Obligations.GovernorsEvaluate : Prop :=
  (∀ s : State, s.resetInput = false →
    exec .governorEvaluation s =
      .next
        (if s.evaluationDue then
          ((({ s with evaluationDue := false } : State).evaluateLane .A).evaluateLane .B).closeTick
        else s)) ∧
  ∀ (s : State) (L : Lane),
    let r := s.recipe L
    let g := (s.lane L).gov
    let raw := pressureRatio s.config.tables s.monitor.filtered r.pCut
    let o := if s.monitor.alarm then raw * r.rippleDerate / 1000 else raw
    let low : Prop :=
      s.laneState L = .cutting ∧ ∃ e, (s.lane L).seq.released = .segment e ∧ e.fSeg * o / 1000 < r.feedFloor
    let becomes (current last : Nat) (starved : Bool) (timer : Timer) (lowest : Option Nat) (t : State) : State :=
      t.modGov L fun _ =>
        { current := current, lastSent := last, starved := starved, starvationTimer := timer, segmentMin := lowest }
    let notice (n : Nat) (t : State) : State := t.send L.port.link kindOverride (beBytes 2 n)
    let lowered (n : Nat) : Option Nat := g.segmentMin.map fun old => min n old
    let change := max o g.lastSent - min o g.lastSent
    let tells : Prop := s.config.timing.overrideStep ≤ change ∨ o = 1000 ∧ g.lastSent ≠ 1000
    (s.laneState L ≠ .cutting → s.laneState L ≠ .openIdle → s.evaluateLane L = s) ∧
    (s.laneState L = .cutting ∨ s.laneState L = .openIdle →
      (g.starved = true → low →
        s.evaluateLane L = becomes o g.lastSent true g.starvationTimer g.segmentMin s) ∧
      (g.starved = true → ¬ low → s.evaluateLane L = notice o (becomes o o false none (lowered o) s)) ∧
      (g.starved = false → low →
        s.evaluateLane L =
          ((notice 0 (becomes o 0 true (some s.config.timing.starvationLimit) (lowered 0) s)).raiseHead L
            .starving).modLane L fun u =>
              { u with
                counters :=
                  { u.counters with starvationDwells := min 4294967295 (u.counters.starvationDwells + 1) } }) ∧
      (g.starved = false → ¬ low → tells →
        s.evaluateLane L = notice o (becomes o o false g.starvationTimer (lowered o) s)) ∧
      (g.starved = false → ¬ low → ¬ tells →
        s.evaluateLane L = becomes o g.lastSent false g.starvationTimer g.segmentMin s))

/-! ## Metering and flow -/

/-- The metering commands (R147, R149, R150, R154, R155, R159, R162): START begins slot 0 of a stopped generator with its
flow monitor's first window and grace; to a running one it is LEVEL, which holds a pending level, or drops it when it
names the level in force; STOP stops a running generator and resets its monitor, the last window count kept; LEVEL and
STOP do nothing to a stopped one. In mirror mode lane B's unit takes lane A's commands. -/
def Obligations.MeteringTakesItsCommands : Prop :=
  ∀ (s : State) (L : Lane) (n : Nat),
    let t := s.config.timing
    let start (s : State) (L : Lane) : State :=
      if (s.lane L).gen.running then
        s.modGen L fun g => { g with pendingLevel := if n = g.level then none else some n }
      else
        (s.modLane L fun u =>
          { u with
            gen := { running := true, level := n, pendingLevel := none, slot := 0, slotTimer := none }
            mon :=
              { edgeCount := 0, windowTimer := some t.windowLength
                grace := if t.graceTime = 0 then .expiring else .running t.graceTime
                badCount := 0, goodCount := 0, lastWindow := none } }).beginSlot L
    let level (s : State) (L : Lane) : State :=
      s.modGen L fun g =>
        if g.running then { g with pendingLevel := if n = g.level then none else some n } else g
    let stop (s : State) (L : Lane) : State :=
      s.modLane L fun u =>
        if u.gen.running then
          { u with
            gen := { running := false, level := 0, pendingLevel := none, slot := 0, slotTimer := none }
            mon := { u.mon with edgeCount := 0, windowTimer := none, grace := .stopped, badCount := 0, goodCount := 0 } }
        else u
    let both (f : State → Lane → State) : State := if L = .A ∧ s.mirror = true then f (f s .A) .B else f s L
    s.meterStart L n = both start ∧ s.meterLevel L n = both level ∧ s.meterStop L = both stop

/-- SLOT_TIMER_EXPIRY (R148, R151, R162): the next slot begins, slot 0 behind slot 15; a pending level takes effect at
slot 0; a step is emitted where the pattern gives one, and counts in ABRASIVE_STEPS and, while something is released,
in the step count, held at 65535; the slot timer starts. In mirror mode lane A's timer drives both units. A cycle at
level n, of at most 16, emits n steps. Nothing happens while the timer is not due (log entry 2). That lane A's slot timer
drives both units in mirror mode, and that the expiry of lane B then names the same event, is read from R162 (log entry
22). -/
def Obligations.SlotsEmitThePattern : Prop :=
  (∀ (L : Lane) (s : State), s.resetInput = false →
    let lead := if s.mirror then Lane.A else L
    let next (u : LaneUnit) : LaneUnit :=
      let slot := (u.gen.slot + 1) % 16
      let applies := slot = 0 ∧ u.gen.pendingLevel ≠ none
      let level := if applies then u.gen.pendingLevel.getD 0 else u.gen.level
      let step := slot * level / 16 < (slot + 1) * level / 16
      { u with
        gen :=
          { running := u.gen.running, level := level, slot := slot, slotTimer := some s.config.timing.slotTime
            pendingLevel := if applies then none else u.gen.pendingLevel }
        seq := { u.seq with
          stepCount := if step ∧ u.seq.released ≠ .none then min 65535 (u.seq.stepCount + 1) else u.seq.stepCount }
        counters := { u.counters with
          abrasiveSteps :=
            if step then min 4294967295 (u.counters.abrasiveSteps + 1) else u.counters.abrasiveSteps } }
    ((s.lane lead).gen.slotTimer = some 0 →
      exec (.slotTimerExpiry L) s =
        .next (if s.mirror then (s.modLane .A next).modLane .B next else s.modLane L next)) ∧
    ((s.lane lead).gen.slotTimer ≠ some 0 → exec (.slotTimerExpiry L) s = .next s)) ∧
  ∀ n ≤ 16, ((List.range 16).filter fun k => emitsStep k n).length = n

/-- FLOW_INPUT_CHANGE and FLOW_FILTER_EXPIRY (R152, R153): a level away from the accepted one starts the filter timer, a
filter time of 0 accepting it at once, and the accepted level again stops it; at the expiry the level at the input is
accepted, and an edge of the counted polarity counts in the window, at most to 255, while the generator runs. Nothing
else changes. That the expiry of a timer that is not due changes nothing is the model's choice (log entry 2); that the
level at the pin moves while the part is held at rest too, to be read at the start, is read from R194 (log entry 10). -/
def Obligations.FlowFilterFollowsItsInput : Prop :=
  ∀ (L : Lane) (s : State),
    let timing := s.config.timing
    let accepted (level : Level) (u : LaneUnit) : LaneUnit :=
      let counted : Prop :=
        u.gen.running = true ∧
          (timing.edgePolarity = .both ∨ timing.edgePolarity = .rising ∧ level = .high ∨
            timing.edgePolarity = .falling ∧ level = .low)
      { u with
        filter := { input := level, accepted := level, timer := none }
        mon := { u.mon with edgeCount := if counted then min 255 (u.mon.edgeCount + 1) else u.mon.edgeCount } }
    let filter := (s.lane L).filter
    (∀ level, s.resetInput = false → level ≠ filter.input →
      exec (.flowInputChange L level) s =
        .next (s.modLane L fun u =>
          if level = filter.accepted then { u with filter := { u.filter with input := level, timer := none } }
          else if timing.filterTime = 0 then accepted level u
          else { u with filter := { u.filter with input := level, timer := some timing.filterTime } })) ∧
    (∀ level, level = filter.input → exec (.flowInputChange L level) s = .next s) ∧
    (∀ level, s.resetInput = true →
      exec (.flowInputChange L level) s =
        .next (s.modLane L fun u => { u with filter := { u.filter with input := level } })) ∧
    (s.resetInput = false → filter.timer = some 0 →
      exec (.flowFilterExpiry L) s = .next (s.modLane L (accepted filter.input))) ∧
    (s.resetInput = false → filter.timer ≠ some 0 → exec (.flowFilterExpiry L) s = .next s)

/-- WINDOW_TIMER_EXPIRY and GRACE_TIMER_EXPIRY (R154, R155, R156, R157, R166): the window's count becomes the last window
count and the next window begins; a good window raises the good count and, at the clear count, ends the spell; a bad
window outside the grace raises the bad count and, at the assert count, asserts the loss: ABRASIVE_LOSS on the lane's
head port, for lane B in mirror mode on port A as well, the fault of the lane, of lane A in mirror mode, and the
arbiter's part. A timer acts only once it is due (log entry 2); a window that ends at the tick at which the grace expires
is a grace window (log entry 5). The event's end counts the last tick once its expiries are
taken (log entry 16). -/
def Obligations.WindowsJudgeTheFlow : Prop :=
  ∀ (L : Lane) (s : State), s.resetInput = false →
    let timing := s.config.timing
    let m := (s.lane L).mon
    let good : Prop := timing.minimumEdgeCount ≤ m.edgeCount
    let grace : Prop := m.grace = .expiring ∨ ∃ n, m.grace = .running n
    let next (bad goodCount : Nat) : State :=
      s.modMon L fun m =>
        { edgeCount := 0, windowTimer := some timing.windowLength, grace := m.grace, badCount := bad,
          goodCount := goodCount, lastWindow := some m.edgeCount }
    let outcome (t : State) : Prop := exec (.windowTimerExpiry L) s = .next t
    let lossLane := if s.mirror then Lane.A else L
    (m.windowTimer ≠ some 0 → outcome s) ∧
    (m.windowTimer = some 0 →
      (good → m.goodCount + 1 < timing.clearCount → outcome (next m.badCount (m.goodCount + 1)).closeTick) ∧
      (good → timing.clearCount ≤ m.goodCount + 1 → outcome (next 0 timing.clearCount).closeTick) ∧
      (¬ good → grace → outcome (next m.badCount m.goodCount).closeTick) ∧
      (¬ good → ¬ grace → m.badCount + 1 < timing.assertCount → outcome (next (m.badCount + 1) 0).closeTick) ∧
      (¬ good → ¬ grace → timing.assertCount ≤ m.badCount + 1 →
        let raised := (next (m.badCount + 1) 0).raiseHead L .abrasiveLoss
        outcome (((if lossLane = L then raised else raised.raiseHead lossLane .abrasiveLoss).faultLane lossLane
          .abrasiveLoss).conclude))) ∧
    (m.grace = .running 0 →
      exec (.graceTimerExpiry L) s = .next (s.modMon L fun m => { m with grace := .expiring })) ∧
    (m.grace ≠ .running 0 → exec (.graceTimerExpiry L) s = .next s)

/-! ## Inputs, modes and resets -/

/-- INHIBIT_ASSERT and INHIBIT_RELEASE (R185): a change of the input takes the inhibit level with it and raises INHIBIT on
port C; an assertion is a cause that reaches both lanes; the arbiter's part follows. A level the input already has is no
change. That only the input moves while the part is held at rest is read from R194 (log entry 10). The event's end counts the last tick once its expiries are
taken (log entry 16). -/
def Obligations.InhibitFollowsItsInput : Prop :=
  ∀ s : State,
    (s.inhibitInput = false → s.resetInput = false →
      exec .inhibitAssert s =
        .next (((({ s with inhibitInput := true, inhibit := true } : State).raiseCell .inhibit).faultLane .A
          .inhibit).faultLane .B .inhibit).conclude) ∧
    (s.inhibitInput = true → s.resetInput = false →
      exec .inhibitRelease s =
        .next (({ s with inhibitInput := false, inhibit := false } : State).raiseCell .inhibit).conclude) ∧
    (s.inhibitInput = true → exec .inhibitAssert s = .next s) ∧
    (s.inhibitInput = false → exec .inhibitRelease s = .next s) ∧
    (s.resetInput = true → exec .inhibitAssert s = .next { s with inhibitInput := true }) ∧
    (s.resetInput = true → exec .inhibitRelease s = .next { s with inhibitInput := false })

/-- MODE (R17, R163, R164): a mode field that is neither off nor on is refused BAD_FIELD, a mode whose lanes are not as
the checks ask JOB_ACTIVE, and a mode already in force changes nothing. Mirror on makes lane B MIRRORED with an empty
queue and FIFO and its generator with lane A's; mirror off makes it CLOSED with its metering stopped. The event's end counts the last tick once its expiries are
taken (log entry 16). -/
def Obligations.ModeGangsAndParts : Prop :=
  (∀ (mode : Nat) (s : State), s.hands .C (.modeMirrorOn mode) = true → mode ≠ 0 →
    let allowed : Prop :=
      s.laneState .A = .closed ∧ (s.laneState .B = .closed ∨ s.laneState .B = .mirrored)
    let replied := s.answeredAt .C kindMode .ok []
    let start := s.config.partition.queueB.start
    let outcome (t : State) : Prop := exec (.modeMirrorOn mode) s = .next t
    (mode ≠ 1 → outcome (s.answeredAt .C kindMode .badField [])) ∧
    (mode = 1 → ¬ allowed → outcome (s.answeredAt .C kindMode .jobActive [])) ∧
    (mode = 1 → allowed → s.mirror = true → outcome replied) ∧
    (mode = 1 → allowed → s.mirror = false →
      outcome ({ replied with
        mirror := true
        laneB := { s.laneB with
          seq := { Sequencer.reset with state := .mirrored }
          queue := { entries := [], put := start, get := start }
          fifo := []
          gen := s.laneA.gen } } : State).conclude)) ∧
  ∀ s : State, s.hands .C .modeMirrorOff = true →
    let replied := s.answeredAt .C kindMode .ok []
    let outcome (t : State) : Prop := exec .modeMirrorOff s = .next t
    (s.laneState .A ≠ .closed → outcome (s.answeredAt .C kindMode .jobActive [])) ∧
    (s.laneState .A = .closed → s.mirror = false → outcome replied) ∧
    (s.laneState .A = .closed → s.mirror = true →
      outcome ({ replied with
        mirror := false
        laneB :=
          let u := s.laneB
          { u with
            seq := Sequencer.reset
            gen := if u.gen.running then { running := false, level := 0, pendingLevel := none, slot := 0,
                                           slotTimer := none } else u.gen
            mon :=
              if u.gen.running then
                { u.mon with edgeCount := 0, windowTimer := none, grace := .stopped, badCount := 0, goodCount := 0 }
              else u.mon } } : State).conclude)

/-- RESET (R52, R58, R59, R61, R90, R93, R115, R132, R146, R184, R193): the OK reply first, and then everything it resets;
every table, counter, receiver and transmit order, the monitor's view of the pump, the inhibit level, the flow filters
with the last window counts and the governor period are kept. The lock state follows the change of target (R126). The event's end counts the last tick once its expiries are
taken (log entry 16). -/
def Obligations.ResetKeepsAndClears : Prop :=
  ∀ s : State, s.hands .C .reset = true →
    let region (L : Lane) : Region := s.queueRegion L
    let unit (L : Lane) (u : LaneUnit) : LaneUnit :=
      { seq := Sequencer.reset
        queue := { entries := [], put := (region L).start, get := (region L).start }
        fifo := []
        gov := { current := 1000, lastSent := 1000, starved := false, starvationTimer := none, segmentMin := none }
        gen := { running := false, level := 0, pendingLevel := none, slot := 0, slotTimer := none }
        mon := { u.mon with edgeCount := 0, windowTimer := none, grace := .stopped, badCount := 0, goodCount := 0 }
        filter := u.filter
        counters := u.counters }
    let m := s.monitor
    let replied := s.answeredAt .C kindReset .ok []
    exec .reset s =
      .next
        ({ replied with
          mirror := false
          laneA := unit .A s.laneA
          laneB := unit .B s.laneB
          arbiter := { queue := [], holder := none, target := 0 }
          monitor :=
            if s.arbiter.target = 0 then m
            else
              { m with
                locked := false
                settleTimer :=
                  if m.lost = false ∧ m.history ≠ [] ∧ m.ramped = 0 ∧ m.filtered ≤ s.config.timing.band then
                    some s.config.timing.settle
                  else none }
          portA := { replied.portA with events := { pending := 0#32, enable := 0x000003F7#32 } }
          portB := { replied.portB with events := { pending := 0#32, enable := 0x000003F7#32 } }
          portC := { replied.portC with events := { pending := 0#32, enable := 0x0007F7F7#32 } }
          route := 0x0101#16
          timestamp := 0 } : State).closeTick

/-- The reset input and power-on (R2, R8, R28, R41, R61, R93, R115, R132, R146, R169, R171, R184, R187, R191, R194): at the
release of the reset input and at the end of power-up the part starts with every block at its power-on values, the inhibit
level and the accepted flow levels read from their inputs without an event. While the input is asserted the valves are
closed and the attention lines released, nothing is to be sent, and nothing is taken but the inputs themselves. That the
part holds its power-on values while the input is asserted, and takes the inputs and power-on alone, is read from R194 (log
entry 10); the waiting commands and the count of free values, the model's own, are kept, and its marks of a due evaluation
and of a tick to count are cleared (log entry 24); the run flag before the first SETPOINT is clear (log entry 11). -/
def Obligations.ResetInputStartsThePart : Prop :=
  (∀ s : State,
    let recipe : Recipe :=
      { valid := false, sb := 10, pCut := 1500, pPierce := 600, pierceDwell := 100, kerfDwell := 0, lCut := 1,
        lPierce := 1, abrasiveLead := 0, purge := 0, feedFloor := 1, closingFactor := 1000, rippleDerate := 1000 }
    let element : Element :=
      { enabled := false, type := .exact, code1 := 0, code2 := 0, tmin := 10, tmax := 1000, action := .reject }
    let config : ConfigStore :=
      { recipes := List.replicate 32 recipe
        elements := List.replicate 48 element
        control := { listLength := 0, policy := .reject, defaultRecipe := 0 }
        tables :=
          { kp := [67, 165, 279, 406, 543, 688, 841, 1000, 1165, 1336, 1513, 1694, 1880]
            ka := [289, 408, 500, 577, 645, 707, 764, 816, 866, 913, 957, 1000, 1041, 1080, 1118, 1155]
            dq := [1000, 1500, 2200, 3000]
            qualityMap := [1, 1, 2, 2, 3, 3, 4, 4]
            kc := [1000, 900, 700, 500, 350, 250, 180, 130, 100, 80]
            kr := [300, 450, 600, 750, 880, 950, 990, 1000] }
        partition :=
          { queueA := { start := 0, size := 256 }, queueB := { start := 256, size := 256 }
            fifoA := { start := 512, size := 64 }, fifoB := { start := 576, size := 64 }
            watermarkA := 0, watermarkB := 0, modeA := .keep, modeB := .keep }
        timing :=
          { stallLimit := 2000, lockTimeout := 3000, pierceWaitLimit := 10000, standbyPressure := 1000, rampStep := 10
            lossLimit := 20, band := 150, settle := 200, assertThreshold := 300, deassertThreshold := 150
            overrideStep := 10, starvationLimit := 1500, slotTime := 4, filterTime := 1, edgePolarity := .rising
            windowLength := 100, minimumEdgeCount := 4, graceTime := 800, assertCount := 5, clearCount := 3 } }
    let lane (first : Nat) (input : Level) : LaneUnit :=
      { seq :=
          { state := .closed, recipe := none, nextPending := false, wait := .none, released := .none
            repierceFlag := false, repierceKind := none, lastFaulted := none, faultCause := none, lockTimer := none
            leadTimer := none, dwellTimer := none, stallTimer := none, purgeTimer := none, stepCount := 0
            elapsed := none, postedJet := false, lastSegId := none }
        queue := { entries := [], put := first, get := first }
        fifo := []
        gov := { current := 1000, lastSent := 1000, starved := false, starvationTimer := none, segmentMin := none }
        gen := { running := false, level := 0, pendingLevel := none, slot := 0, slotTimer := none }
        mon :=
          { edgeCount := 0, windowTimer := none, grace := .stopped, badCount := 0, goodCount := 0, lastWindow := none }
        filter := { input := input, accepted := input, timer := none }
        counters :=
          { segmentsDone := 0, segmentsEndedOther := 0, pierces := 0, cutLength := 0, valveOpenMs := 0
            abrasiveSteps := 0, faults := 0, starvationDwells := 0, completionsLost := 0 } }
    let port (enable : BitVec 32) : PortUnit :=
      { rx := { state := .hunt, gapTimer := none }
        line := []
        tx := []
        events := { pending := 0#32, enable := enable }
        counters := { framesOk := 0, framesCrc := 0, framesGap := 0, requestsRefused := 0 } }
    let started (resetInput : Bool) : State :=
      { pending := s.pending
        config := config
        mirror := false
        laneA := lane 0 s.laneA.filter.input
        laneB := lane 256 s.laneB.filter.input
        arbiter := { queue := [], holder := none, target := 0 }
        monitor :=
          { ramped := 0, history := [], filtered := 0, lost := false, lossReason := none, lossTimer := some 20
            locked := false, settleTimer := none, window := [], lastRipple := none, alarm := false, lastStatus := none
            lastRun := false, streaming := false }
        portA := port 0x000003F7#32
        portB := port 0x000003F7#32
        portC := port 0x0007F7F7#32
        route := 0x0101#16
        pumpRx := { state := .hunt, gapTimer := none }
        pumpTx := []
        pumpCounters := { samplesBad := 0, lossEvents := 0, rippleAlarms := 0 }
        timestamp := 0
        period := 0
        evaluationDue := false
        valveDue := false
        inhibit := s.inhibitInput
        inhibitInput := s.inhibitInput
        resetInput := resetInput
        freeUsed := s.freeUsed }
    exec .powerOn s = .next (started false) ∧ exec .resetInputAssert s = .next (started true) ∧
      (∀ L, (started true).valve L = false) ∧ (∀ p, (started true).attention p = false) ∧
      ∀ l, (started true).tx l = []) ∧
  ∀ (s : State) (c : Instr), s.resetInput = true → c ≠ .powerOn → c ≠ .resetInputAssert → c ≠ .inhibitAssert →
    c ≠ .inhibitRelease → (∀ L level, c ≠ .flowInputChange L level) → exec c s = .next s

/-! ## Invariants -/

/-- The part right after power-on meets every invariant (R41, R61, R93, R115, R191). -/
def Obligations.ResetStateMeetsTheInvariants : Prop :=
  JetsSafe State.reset ∧ GrantHeld State.reset ∧ WaitsInOrder State.reset ∧ StoreWithin State.reset ∧
    SetpointWithin State.reset ∧ SamplesWithin State.reset ∧ CountersWithin State.reset

/-- No step opens or keeps a jet while the inhibit is asserted or the pump is lost (R60, R80, R107, R122, R185). -/
def Obligations.EveryStepKeepsJetsSafe : Prop :=
  ∀ s t : State, JetsSafe s → step s = .next t → JetsSafe t

/-- Every step leaves each lane in PIERCING with the grant, so at most one lane pierces (R60, R100, R105). -/
def Obligations.EveryStepKeepsTheGrantHeld : Prop :=
  ∀ s t : State, GrantHeld s → step s = .next t →
    GrantHeld t ∧ ∀ a b, s.laneState .A = .piercing a → s.laneState .B = .piercing b → False

/-- Every step keeps the pierce queue in order: at most one entry a lane, each lane with one READY with a NEXT pending and a
head that calls for a pierce, lane B MIRRORED exactly while mirror mode is on and lane A never (R60, R91, R95). -/
def Obligations.EveryStepKeepsWaitsInOrder : Prop :=
  ∀ s t : State, WaitsInOrder s → step s = .next t → WaitsInOrder t

/-- Every step keeps each lane queue a ring within its region and each completion FIFO within its own (R40, R45, R55). -/
def Obligations.EveryStepKeepsTheStoreWithin : Prop :=
  ∀ s t : State, StoreWithin s → step s = .next t → StoreWithin t

/-- Every step keeps the configuration store within its ranges and order rules, and the target and the ramped setpoint
within 0..6200 bar (R1, R6, R7, R27, R42, R106, R116, R187). -/
def Obligations.EveryStepKeepsTheSetpointWithin : Prop :=
  ∀ s t : State, SetpointWithin s → step s = .next t → SetpointWithin t

/-- Every step keeps the monitor's view of the samples: at most 8 in the history, none above 7000, the filtered pressure their
truncated mean, at most 63 in the window, and of a pump that is lost no history, no window, no
ripple alarm, no lock and no settle (R115, R120, R122, R128). -/
def Obligations.EveryStepKeepsTheSamplesWithin : Prop :=
  ∀ s t : State, SamplesWithin s → step s = .next t → SamplesWithin t

/-- No step carries a counter past 4,294,967,295, and none lowers one but a clear-after-read, the reset input and power-on
(R191). -/
def Obligations.CountersOnlyRise : Prop :=
  ∀ (c : Instr) (s t : State), CountersWithin s → exec c s = .next t →
    CountersWithin t ∧
      ((∀ p group, c ≠ .counterReadClear p group ∧ c ≠ .counterRead p group 1) → c ≠ .powerOn → c ≠ .resetInputAssert →
        ∀ i a b : Nat, s.counters[i]? = some a → t.counters[i]? = some b → a ≤ b)
end

