-- ==== Sys2Proof/Laws/State.lean ====
section
/-! SUPPORT. What the named updates of the state leave as it was, one lemma per field, and what they write. -/

namespace Sys2Proof.Machine

variable (s : State)

@[simp] theorem State.modLane_pending (L : Lane) (f : LaneUnit → LaneUnit) : (s.modLane L f).pending = s.pending := by cases L <;> rfl
@[simp] theorem State.modLane_config (L : Lane) (f : LaneUnit → LaneUnit) : (s.modLane L f).config = s.config := by cases L <;> rfl
@[simp] theorem State.modLane_mirror (L : Lane) (f : LaneUnit → LaneUnit) : (s.modLane L f).mirror = s.mirror := by cases L <;> rfl
@[simp] theorem State.modLane_arbiter (L : Lane) (f : LaneUnit → LaneUnit) : (s.modLane L f).arbiter = s.arbiter := by cases L <;> rfl
@[simp] theorem State.modLane_monitor (L : Lane) (f : LaneUnit → LaneUnit) : (s.modLane L f).monitor = s.monitor := by cases L <;> rfl
@[simp] theorem State.modLane_portA (L : Lane) (f : LaneUnit → LaneUnit) : (s.modLane L f).portA = s.portA := by cases L <;> rfl
@[simp] theorem State.modLane_portB (L : Lane) (f : LaneUnit → LaneUnit) : (s.modLane L f).portB = s.portB := by cases L <;> rfl
@[simp] theorem State.modLane_portC (L : Lane) (f : LaneUnit → LaneUnit) : (s.modLane L f).portC = s.portC := by cases L <;> rfl
@[simp] theorem State.modLane_route (L : Lane) (f : LaneUnit → LaneUnit) : (s.modLane L f).route = s.route := by cases L <;> rfl
@[simp] theorem State.modLane_pumpRx (L : Lane) (f : LaneUnit → LaneUnit) : (s.modLane L f).pumpRx = s.pumpRx := by cases L <;> rfl
@[simp] theorem State.modLane_pumpTx (L : Lane) (f : LaneUnit → LaneUnit) : (s.modLane L f).pumpTx = s.pumpTx := by cases L <;> rfl
@[simp] theorem State.modLane_pumpCounters (L : Lane) (f : LaneUnit → LaneUnit) : (s.modLane L f).pumpCounters = s.pumpCounters := by cases L <;> rfl
@[simp] theorem State.modLane_timestamp (L : Lane) (f : LaneUnit → LaneUnit) : (s.modLane L f).timestamp = s.timestamp := by cases L <;> rfl
@[simp] theorem State.modLane_period (L : Lane) (f : LaneUnit → LaneUnit) : (s.modLane L f).period = s.period := by cases L <;> rfl
@[simp] theorem State.modLane_evaluationDue (L : Lane) (f : LaneUnit → LaneUnit) : (s.modLane L f).evaluationDue = s.evaluationDue := by cases L <;> rfl
@[simp] theorem State.modLane_valveDue (L : Lane) (f : LaneUnit → LaneUnit) : (s.modLane L f).valveDue = s.valveDue := by cases L <;> rfl
@[simp] theorem State.modLane_inhibit (L : Lane) (f : LaneUnit → LaneUnit) : (s.modLane L f).inhibit = s.inhibit := by cases L <;> rfl
@[simp] theorem State.modLane_inhibitInput (L : Lane) (f : LaneUnit → LaneUnit) : (s.modLane L f).inhibitInput = s.inhibitInput := by cases L <;> rfl
@[simp] theorem State.modLane_resetInput (L : Lane) (f : LaneUnit → LaneUnit) : (s.modLane L f).resetInput = s.resetInput := by cases L <;> rfl
@[simp] theorem State.modLane_freeUsed (L : Lane) (f : LaneUnit → LaneUnit) : (s.modLane L f).freeUsed = s.freeUsed := by cases L <;> rfl

@[simp] theorem State.modSeq_pending (L : Lane) (f : Sequencer → Sequencer) : (s.modSeq L f).pending = s.pending := by cases L <;> rfl
@[simp] theorem State.modSeq_config (L : Lane) (f : Sequencer → Sequencer) : (s.modSeq L f).config = s.config := by cases L <;> rfl
@[simp] theorem State.modSeq_mirror (L : Lane) (f : Sequencer → Sequencer) : (s.modSeq L f).mirror = s.mirror := by cases L <;> rfl
@[simp] theorem State.modSeq_arbiter (L : Lane) (f : Sequencer → Sequencer) : (s.modSeq L f).arbiter = s.arbiter := by cases L <;> rfl
@[simp] theorem State.modSeq_monitor (L : Lane) (f : Sequencer → Sequencer) : (s.modSeq L f).monitor = s.monitor := by cases L <;> rfl
@[simp] theorem State.modSeq_portA (L : Lane) (f : Sequencer → Sequencer) : (s.modSeq L f).portA = s.portA := by cases L <;> rfl
@[simp] theorem State.modSeq_portB (L : Lane) (f : Sequencer → Sequencer) : (s.modSeq L f).portB = s.portB := by cases L <;> rfl
@[simp] theorem State.modSeq_portC (L : Lane) (f : Sequencer → Sequencer) : (s.modSeq L f).portC = s.portC := by cases L <;> rfl
@[simp] theorem State.modSeq_route (L : Lane) (f : Sequencer → Sequencer) : (s.modSeq L f).route = s.route := by cases L <;> rfl
@[simp] theorem State.modSeq_pumpRx (L : Lane) (f : Sequencer → Sequencer) : (s.modSeq L f).pumpRx = s.pumpRx := by cases L <;> rfl
@[simp] theorem State.modSeq_pumpTx (L : Lane) (f : Sequencer → Sequencer) : (s.modSeq L f).pumpTx = s.pumpTx := by cases L <;> rfl
@[simp] theorem State.modSeq_pumpCounters (L : Lane) (f : Sequencer → Sequencer) : (s.modSeq L f).pumpCounters = s.pumpCounters := by cases L <;> rfl
@[simp] theorem State.modSeq_timestamp (L : Lane) (f : Sequencer → Sequencer) : (s.modSeq L f).timestamp = s.timestamp := by cases L <;> rfl
@[simp] theorem State.modSeq_period (L : Lane) (f : Sequencer → Sequencer) : (s.modSeq L f).period = s.period := by cases L <;> rfl
@[simp] theorem State.modSeq_evaluationDue (L : Lane) (f : Sequencer → Sequencer) : (s.modSeq L f).evaluationDue = s.evaluationDue := by cases L <;> rfl
@[simp] theorem State.modSeq_valveDue (L : Lane) (f : Sequencer → Sequencer) : (s.modSeq L f).valveDue = s.valveDue := by cases L <;> rfl
@[simp] theorem State.modSeq_inhibit (L : Lane) (f : Sequencer → Sequencer) : (s.modSeq L f).inhibit = s.inhibit := by cases L <;> rfl
@[simp] theorem State.modSeq_inhibitInput (L : Lane) (f : Sequencer → Sequencer) : (s.modSeq L f).inhibitInput = s.inhibitInput := by cases L <;> rfl
@[simp] theorem State.modSeq_resetInput (L : Lane) (f : Sequencer → Sequencer) : (s.modSeq L f).resetInput = s.resetInput := by cases L <;> rfl
@[simp] theorem State.modSeq_freeUsed (L : Lane) (f : Sequencer → Sequencer) : (s.modSeq L f).freeUsed = s.freeUsed := by cases L <;> rfl

@[simp] theorem State.modQueue_pending (L : Lane) (f : LaneQueue → LaneQueue) : (s.modQueue L f).pending = s.pending := by cases L <;> rfl
@[simp] theorem State.modQueue_config (L : Lane) (f : LaneQueue → LaneQueue) : (s.modQueue L f).config = s.config := by cases L <;> rfl
@[simp] theorem State.modQueue_mirror (L : Lane) (f : LaneQueue → LaneQueue) : (s.modQueue L f).mirror = s.mirror := by cases L <;> rfl
@[simp] theorem State.modQueue_arbiter (L : Lane) (f : LaneQueue → LaneQueue) : (s.modQueue L f).arbiter = s.arbiter := by cases L <;> rfl
@[simp] theorem State.modQueue_monitor (L : Lane) (f : LaneQueue → LaneQueue) : (s.modQueue L f).monitor = s.monitor := by cases L <;> rfl
@[simp] theorem State.modQueue_portA (L : Lane) (f : LaneQueue → LaneQueue) : (s.modQueue L f).portA = s.portA := by cases L <;> rfl
@[simp] theorem State.modQueue_portB (L : Lane) (f : LaneQueue → LaneQueue) : (s.modQueue L f).portB = s.portB := by cases L <;> rfl
@[simp] theorem State.modQueue_portC (L : Lane) (f : LaneQueue → LaneQueue) : (s.modQueue L f).portC = s.portC := by cases L <;> rfl
@[simp] theorem State.modQueue_route (L : Lane) (f : LaneQueue → LaneQueue) : (s.modQueue L f).route = s.route := by cases L <;> rfl
@[simp] theorem State.modQueue_pumpRx (L : Lane) (f : LaneQueue → LaneQueue) : (s.modQueue L f).pumpRx = s.pumpRx := by cases L <;> rfl
@[simp] theorem State.modQueue_pumpTx (L : Lane) (f : LaneQueue → LaneQueue) : (s.modQueue L f).pumpTx = s.pumpTx := by cases L <;> rfl
@[simp] theorem State.modQueue_pumpCounters (L : Lane) (f : LaneQueue → LaneQueue) : (s.modQueue L f).pumpCounters = s.pumpCounters := by cases L <;> rfl
@[simp] theorem State.modQueue_timestamp (L : Lane) (f : LaneQueue → LaneQueue) : (s.modQueue L f).timestamp = s.timestamp := by cases L <;> rfl
@[simp] theorem State.modQueue_period (L : Lane) (f : LaneQueue → LaneQueue) : (s.modQueue L f).period = s.period := by cases L <;> rfl
@[simp] theorem State.modQueue_evaluationDue (L : Lane) (f : LaneQueue → LaneQueue) : (s.modQueue L f).evaluationDue = s.evaluationDue := by cases L <;> rfl
@[simp] theorem State.modQueue_valveDue (L : Lane) (f : LaneQueue → LaneQueue) : (s.modQueue L f).valveDue = s.valveDue := by cases L <;> rfl
@[simp] theorem State.modQueue_inhibit (L : Lane) (f : LaneQueue → LaneQueue) : (s.modQueue L f).inhibit = s.inhibit := by cases L <;> rfl
@[simp] theorem State.modQueue_inhibitInput (L : Lane) (f : LaneQueue → LaneQueue) : (s.modQueue L f).inhibitInput = s.inhibitInput := by cases L <;> rfl
@[simp] theorem State.modQueue_resetInput (L : Lane) (f : LaneQueue → LaneQueue) : (s.modQueue L f).resetInput = s.resetInput := by cases L <;> rfl
@[simp] theorem State.modQueue_freeUsed (L : Lane) (f : LaneQueue → LaneQueue) : (s.modQueue L f).freeUsed = s.freeUsed := by cases L <;> rfl

@[simp] theorem State.modGov_pending (L : Lane) (f : Governor → Governor) : (s.modGov L f).pending = s.pending := by cases L <;> rfl
@[simp] theorem State.modGov_config (L : Lane) (f : Governor → Governor) : (s.modGov L f).config = s.config := by cases L <;> rfl
@[simp] theorem State.modGov_mirror (L : Lane) (f : Governor → Governor) : (s.modGov L f).mirror = s.mirror := by cases L <;> rfl
@[simp] theorem State.modGov_arbiter (L : Lane) (f : Governor → Governor) : (s.modGov L f).arbiter = s.arbiter := by cases L <;> rfl
@[simp] theorem State.modGov_monitor (L : Lane) (f : Governor → Governor) : (s.modGov L f).monitor = s.monitor := by cases L <;> rfl
@[simp] theorem State.modGov_portA (L : Lane) (f : Governor → Governor) : (s.modGov L f).portA = s.portA := by cases L <;> rfl
@[simp] theorem State.modGov_portB (L : Lane) (f : Governor → Governor) : (s.modGov L f).portB = s.portB := by cases L <;> rfl
@[simp] theorem State.modGov_portC (L : Lane) (f : Governor → Governor) : (s.modGov L f).portC = s.portC := by cases L <;> rfl
@[simp] theorem State.modGov_route (L : Lane) (f : Governor → Governor) : (s.modGov L f).route = s.route := by cases L <;> rfl
@[simp] theorem State.modGov_pumpRx (L : Lane) (f : Governor → Governor) : (s.modGov L f).pumpRx = s.pumpRx := by cases L <;> rfl
@[simp] theorem State.modGov_pumpTx (L : Lane) (f : Governor → Governor) : (s.modGov L f).pumpTx = s.pumpTx := by cases L <;> rfl
@[simp] theorem State.modGov_pumpCounters (L : Lane) (f : Governor → Governor) : (s.modGov L f).pumpCounters = s.pumpCounters := by cases L <;> rfl
@[simp] theorem State.modGov_timestamp (L : Lane) (f : Governor → Governor) : (s.modGov L f).timestamp = s.timestamp := by cases L <;> rfl
@[simp] theorem State.modGov_period (L : Lane) (f : Governor → Governor) : (s.modGov L f).period = s.period := by cases L <;> rfl
@[simp] theorem State.modGov_evaluationDue (L : Lane) (f : Governor → Governor) : (s.modGov L f).evaluationDue = s.evaluationDue := by cases L <;> rfl
@[simp] theorem State.modGov_valveDue (L : Lane) (f : Governor → Governor) : (s.modGov L f).valveDue = s.valveDue := by cases L <;> rfl
@[simp] theorem State.modGov_inhibit (L : Lane) (f : Governor → Governor) : (s.modGov L f).inhibit = s.inhibit := by cases L <;> rfl
@[simp] theorem State.modGov_inhibitInput (L : Lane) (f : Governor → Governor) : (s.modGov L f).inhibitInput = s.inhibitInput := by cases L <;> rfl
@[simp] theorem State.modGov_resetInput (L : Lane) (f : Governor → Governor) : (s.modGov L f).resetInput = s.resetInput := by cases L <;> rfl
@[simp] theorem State.modGov_freeUsed (L : Lane) (f : Governor → Governor) : (s.modGov L f).freeUsed = s.freeUsed := by cases L <;> rfl

@[simp] theorem State.modGen_pending (L : Lane) (f : Generator → Generator) : (s.modGen L f).pending = s.pending := by cases L <;> rfl
@[simp] theorem State.modGen_config (L : Lane) (f : Generator → Generator) : (s.modGen L f).config = s.config := by cases L <;> rfl
@[simp] theorem State.modGen_mirror (L : Lane) (f : Generator → Generator) : (s.modGen L f).mirror = s.mirror := by cases L <;> rfl
@[simp] theorem State.modGen_arbiter (L : Lane) (f : Generator → Generator) : (s.modGen L f).arbiter = s.arbiter := by cases L <;> rfl
@[simp] theorem State.modGen_monitor (L : Lane) (f : Generator → Generator) : (s.modGen L f).monitor = s.monitor := by cases L <;> rfl
@[simp] theorem State.modGen_portA (L : Lane) (f : Generator → Generator) : (s.modGen L f).portA = s.portA := by cases L <;> rfl
@[simp] theorem State.modGen_portB (L : Lane) (f : Generator → Generator) : (s.modGen L f).portB = s.portB := by cases L <;> rfl
@[simp] theorem State.modGen_portC (L : Lane) (f : Generator → Generator) : (s.modGen L f).portC = s.portC := by cases L <;> rfl
@[simp] theorem State.modGen_route (L : Lane) (f : Generator → Generator) : (s.modGen L f).route = s.route := by cases L <;> rfl
@[simp] theorem State.modGen_pumpRx (L : Lane) (f : Generator → Generator) : (s.modGen L f).pumpRx = s.pumpRx := by cases L <;> rfl
@[simp] theorem State.modGen_pumpTx (L : Lane) (f : Generator → Generator) : (s.modGen L f).pumpTx = s.pumpTx := by cases L <;> rfl
@[simp] theorem State.modGen_pumpCounters (L : Lane) (f : Generator → Generator) : (s.modGen L f).pumpCounters = s.pumpCounters := by cases L <;> rfl
@[simp] theorem State.modGen_timestamp (L : Lane) (f : Generator → Generator) : (s.modGen L f).timestamp = s.timestamp := by cases L <;> rfl
@[simp] theorem State.modGen_period (L : Lane) (f : Generator → Generator) : (s.modGen L f).period = s.period := by cases L <;> rfl
@[simp] theorem State.modGen_evaluationDue (L : Lane) (f : Generator → Generator) : (s.modGen L f).evaluationDue = s.evaluationDue := by cases L <;> rfl
@[simp] theorem State.modGen_valveDue (L : Lane) (f : Generator → Generator) : (s.modGen L f).valveDue = s.valveDue := by cases L <;> rfl
@[simp] theorem State.modGen_inhibit (L : Lane) (f : Generator → Generator) : (s.modGen L f).inhibit = s.inhibit := by cases L <;> rfl
@[simp] theorem State.modGen_inhibitInput (L : Lane) (f : Generator → Generator) : (s.modGen L f).inhibitInput = s.inhibitInput := by cases L <;> rfl
@[simp] theorem State.modGen_resetInput (L : Lane) (f : Generator → Generator) : (s.modGen L f).resetInput = s.resetInput := by cases L <;> rfl
@[simp] theorem State.modGen_freeUsed (L : Lane) (f : Generator → Generator) : (s.modGen L f).freeUsed = s.freeUsed := by cases L <;> rfl

@[simp] theorem State.modMon_pending (L : Lane) (f : FlowMonitor → FlowMonitor) : (s.modMon L f).pending = s.pending := by cases L <;> rfl
@[simp] theorem State.modMon_config (L : Lane) (f : FlowMonitor → FlowMonitor) : (s.modMon L f).config = s.config := by cases L <;> rfl
@[simp] theorem State.modMon_mirror (L : Lane) (f : FlowMonitor → FlowMonitor) : (s.modMon L f).mirror = s.mirror := by cases L <;> rfl
@[simp] theorem State.modMon_arbiter (L : Lane) (f : FlowMonitor → FlowMonitor) : (s.modMon L f).arbiter = s.arbiter := by cases L <;> rfl
@[simp] theorem State.modMon_monitor (L : Lane) (f : FlowMonitor → FlowMonitor) : (s.modMon L f).monitor = s.monitor := by cases L <;> rfl
@[simp] theorem State.modMon_portA (L : Lane) (f : FlowMonitor → FlowMonitor) : (s.modMon L f).portA = s.portA := by cases L <;> rfl
@[simp] theorem State.modMon_portB (L : Lane) (f : FlowMonitor → FlowMonitor) : (s.modMon L f).portB = s.portB := by cases L <;> rfl
@[simp] theorem State.modMon_portC (L : Lane) (f : FlowMonitor → FlowMonitor) : (s.modMon L f).portC = s.portC := by cases L <;> rfl
@[simp] theorem State.modMon_route (L : Lane) (f : FlowMonitor → FlowMonitor) : (s.modMon L f).route = s.route := by cases L <;> rfl
@[simp] theorem State.modMon_pumpRx (L : Lane) (f : FlowMonitor → FlowMonitor) : (s.modMon L f).pumpRx = s.pumpRx := by cases L <;> rfl
@[simp] theorem State.modMon_pumpTx (L : Lane) (f : FlowMonitor → FlowMonitor) : (s.modMon L f).pumpTx = s.pumpTx := by cases L <;> rfl
@[simp] theorem State.modMon_pumpCounters (L : Lane) (f : FlowMonitor → FlowMonitor) : (s.modMon L f).pumpCounters = s.pumpCounters := by cases L <;> rfl
@[simp] theorem State.modMon_timestamp (L : Lane) (f : FlowMonitor → FlowMonitor) : (s.modMon L f).timestamp = s.timestamp := by cases L <;> rfl
@[simp] theorem State.modMon_period (L : Lane) (f : FlowMonitor → FlowMonitor) : (s.modMon L f).period = s.period := by cases L <;> rfl
@[simp] theorem State.modMon_evaluationDue (L : Lane) (f : FlowMonitor → FlowMonitor) : (s.modMon L f).evaluationDue = s.evaluationDue := by cases L <;> rfl
@[simp] theorem State.modMon_valveDue (L : Lane) (f : FlowMonitor → FlowMonitor) : (s.modMon L f).valveDue = s.valveDue := by cases L <;> rfl
@[simp] theorem State.modMon_inhibit (L : Lane) (f : FlowMonitor → FlowMonitor) : (s.modMon L f).inhibit = s.inhibit := by cases L <;> rfl
@[simp] theorem State.modMon_inhibitInput (L : Lane) (f : FlowMonitor → FlowMonitor) : (s.modMon L f).inhibitInput = s.inhibitInput := by cases L <;> rfl
@[simp] theorem State.modMon_resetInput (L : Lane) (f : FlowMonitor → FlowMonitor) : (s.modMon L f).resetInput = s.resetInput := by cases L <;> rfl
@[simp] theorem State.modMon_freeUsed (L : Lane) (f : FlowMonitor → FlowMonitor) : (s.modMon L f).freeUsed = s.freeUsed := by cases L <;> rfl

@[simp] theorem State.modFilter_pending (L : Lane) (f : FlowFilter → FlowFilter) : (s.modFilter L f).pending = s.pending := by cases L <;> rfl
@[simp] theorem State.modFilter_config (L : Lane) (f : FlowFilter → FlowFilter) : (s.modFilter L f).config = s.config := by cases L <;> rfl
@[simp] theorem State.modFilter_mirror (L : Lane) (f : FlowFilter → FlowFilter) : (s.modFilter L f).mirror = s.mirror := by cases L <;> rfl
@[simp] theorem State.modFilter_arbiter (L : Lane) (f : FlowFilter → FlowFilter) : (s.modFilter L f).arbiter = s.arbiter := by cases L <;> rfl
@[simp] theorem State.modFilter_monitor (L : Lane) (f : FlowFilter → FlowFilter) : (s.modFilter L f).monitor = s.monitor := by cases L <;> rfl
@[simp] theorem State.modFilter_portA (L : Lane) (f : FlowFilter → FlowFilter) : (s.modFilter L f).portA = s.portA := by cases L <;> rfl
@[simp] theorem State.modFilter_portB (L : Lane) (f : FlowFilter → FlowFilter) : (s.modFilter L f).portB = s.portB := by cases L <;> rfl
@[simp] theorem State.modFilter_portC (L : Lane) (f : FlowFilter → FlowFilter) : (s.modFilter L f).portC = s.portC := by cases L <;> rfl
@[simp] theorem State.modFilter_route (L : Lane) (f : FlowFilter → FlowFilter) : (s.modFilter L f).route = s.route := by cases L <;> rfl
@[simp] theorem State.modFilter_pumpRx (L : Lane) (f : FlowFilter → FlowFilter) : (s.modFilter L f).pumpRx = s.pumpRx := by cases L <;> rfl
@[simp] theorem State.modFilter_pumpTx (L : Lane) (f : FlowFilter → FlowFilter) : (s.modFilter L f).pumpTx = s.pumpTx := by cases L <;> rfl
@[simp] theorem State.modFilter_pumpCounters (L : Lane) (f : FlowFilter → FlowFilter) : (s.modFilter L f).pumpCounters = s.pumpCounters := by cases L <;> rfl
@[simp] theorem State.modFilter_timestamp (L : Lane) (f : FlowFilter → FlowFilter) : (s.modFilter L f).timestamp = s.timestamp := by cases L <;> rfl
@[simp] theorem State.modFilter_period (L : Lane) (f : FlowFilter → FlowFilter) : (s.modFilter L f).period = s.period := by cases L <;> rfl
@[simp] theorem State.modFilter_evaluationDue (L : Lane) (f : FlowFilter → FlowFilter) : (s.modFilter L f).evaluationDue = s.evaluationDue := by cases L <;> rfl
@[simp] theorem State.modFilter_valveDue (L : Lane) (f : FlowFilter → FlowFilter) : (s.modFilter L f).valveDue = s.valveDue := by cases L <;> rfl
@[simp] theorem State.modFilter_inhibit (L : Lane) (f : FlowFilter → FlowFilter) : (s.modFilter L f).inhibit = s.inhibit := by cases L <;> rfl
@[simp] theorem State.modFilter_inhibitInput (L : Lane) (f : FlowFilter → FlowFilter) : (s.modFilter L f).inhibitInput = s.inhibitInput := by cases L <;> rfl
@[simp] theorem State.modFilter_resetInput (L : Lane) (f : FlowFilter → FlowFilter) : (s.modFilter L f).resetInput = s.resetInput := by cases L <;> rfl
@[simp] theorem State.modFilter_freeUsed (L : Lane) (f : FlowFilter → FlowFilter) : (s.modFilter L f).freeUsed = s.freeUsed := by cases L <;> rfl

@[simp] theorem State.countLane_pending (L : Lane) (f : LaneCounters → LaneCounters) : (s.countLane L f).pending = s.pending := by cases L <;> rfl
@[simp] theorem State.countLane_config (L : Lane) (f : LaneCounters → LaneCounters) : (s.countLane L f).config = s.config := by cases L <;> rfl
@[simp] theorem State.countLane_mirror (L : Lane) (f : LaneCounters → LaneCounters) : (s.countLane L f).mirror = s.mirror := by cases L <;> rfl
@[simp] theorem State.countLane_arbiter (L : Lane) (f : LaneCounters → LaneCounters) : (s.countLane L f).arbiter = s.arbiter := by cases L <;> rfl
@[simp] theorem State.countLane_monitor (L : Lane) (f : LaneCounters → LaneCounters) : (s.countLane L f).monitor = s.monitor := by cases L <;> rfl
@[simp] theorem State.countLane_portA (L : Lane) (f : LaneCounters → LaneCounters) : (s.countLane L f).portA = s.portA := by cases L <;> rfl
@[simp] theorem State.countLane_portB (L : Lane) (f : LaneCounters → LaneCounters) : (s.countLane L f).portB = s.portB := by cases L <;> rfl
@[simp] theorem State.countLane_portC (L : Lane) (f : LaneCounters → LaneCounters) : (s.countLane L f).portC = s.portC := by cases L <;> rfl
@[simp] theorem State.countLane_route (L : Lane) (f : LaneCounters → LaneCounters) : (s.countLane L f).route = s.route := by cases L <;> rfl
@[simp] theorem State.countLane_pumpRx (L : Lane) (f : LaneCounters → LaneCounters) : (s.countLane L f).pumpRx = s.pumpRx := by cases L <;> rfl
@[simp] theorem State.countLane_pumpTx (L : Lane) (f : LaneCounters → LaneCounters) : (s.countLane L f).pumpTx = s.pumpTx := by cases L <;> rfl
@[simp] theorem State.countLane_pumpCounters (L : Lane) (f : LaneCounters → LaneCounters) : (s.countLane L f).pumpCounters = s.pumpCounters := by cases L <;> rfl
@[simp] theorem State.countLane_timestamp (L : Lane) (f : LaneCounters → LaneCounters) : (s.countLane L f).timestamp = s.timestamp := by cases L <;> rfl
@[simp] theorem State.countLane_period (L : Lane) (f : LaneCounters → LaneCounters) : (s.countLane L f).period = s.period := by cases L <;> rfl
@[simp] theorem State.countLane_evaluationDue (L : Lane) (f : LaneCounters → LaneCounters) : (s.countLane L f).evaluationDue = s.evaluationDue := by cases L <;> rfl
@[simp] theorem State.countLane_valveDue (L : Lane) (f : LaneCounters → LaneCounters) : (s.countLane L f).valveDue = s.valveDue := by cases L <;> rfl
@[simp] theorem State.countLane_inhibit (L : Lane) (f : LaneCounters → LaneCounters) : (s.countLane L f).inhibit = s.inhibit := by cases L <;> rfl
@[simp] theorem State.countLane_inhibitInput (L : Lane) (f : LaneCounters → LaneCounters) : (s.countLane L f).inhibitInput = s.inhibitInput := by cases L <;> rfl
@[simp] theorem State.countLane_resetInput (L : Lane) (f : LaneCounters → LaneCounters) : (s.countLane L f).resetInput = s.resetInput := by cases L <;> rfl
@[simp] theorem State.countLane_freeUsed (L : Lane) (f : LaneCounters → LaneCounters) : (s.countLane L f).freeUsed = s.freeUsed := by cases L <;> rfl

@[simp] theorem State.modPort_pending (p : Port) (f : PortUnit → PortUnit) : (s.modPort p f).pending = s.pending := by cases p <;> rfl
@[simp] theorem State.modPort_config (p : Port) (f : PortUnit → PortUnit) : (s.modPort p f).config = s.config := by cases p <;> rfl
@[simp] theorem State.modPort_mirror (p : Port) (f : PortUnit → PortUnit) : (s.modPort p f).mirror = s.mirror := by cases p <;> rfl
@[simp] theorem State.modPort_laneA (p : Port) (f : PortUnit → PortUnit) : (s.modPort p f).laneA = s.laneA := by cases p <;> rfl
@[simp] theorem State.modPort_laneB (p : Port) (f : PortUnit → PortUnit) : (s.modPort p f).laneB = s.laneB := by cases p <;> rfl
@[simp] theorem State.modPort_arbiter (p : Port) (f : PortUnit → PortUnit) : (s.modPort p f).arbiter = s.arbiter := by cases p <;> rfl
@[simp] theorem State.modPort_monitor (p : Port) (f : PortUnit → PortUnit) : (s.modPort p f).monitor = s.monitor := by cases p <;> rfl
@[simp] theorem State.modPort_route (p : Port) (f : PortUnit → PortUnit) : (s.modPort p f).route = s.route := by cases p <;> rfl
@[simp] theorem State.modPort_pumpRx (p : Port) (f : PortUnit → PortUnit) : (s.modPort p f).pumpRx = s.pumpRx := by cases p <;> rfl
@[simp] theorem State.modPort_pumpTx (p : Port) (f : PortUnit → PortUnit) : (s.modPort p f).pumpTx = s.pumpTx := by cases p <;> rfl
@[simp] theorem State.modPort_pumpCounters (p : Port) (f : PortUnit → PortUnit) : (s.modPort p f).pumpCounters = s.pumpCounters := by cases p <;> rfl
@[simp] theorem State.modPort_timestamp (p : Port) (f : PortUnit → PortUnit) : (s.modPort p f).timestamp = s.timestamp := by cases p <;> rfl
@[simp] theorem State.modPort_period (p : Port) (f : PortUnit → PortUnit) : (s.modPort p f).period = s.period := by cases p <;> rfl
@[simp] theorem State.modPort_evaluationDue (p : Port) (f : PortUnit → PortUnit) : (s.modPort p f).evaluationDue = s.evaluationDue := by cases p <;> rfl
@[simp] theorem State.modPort_valveDue (p : Port) (f : PortUnit → PortUnit) : (s.modPort p f).valveDue = s.valveDue := by cases p <;> rfl
@[simp] theorem State.modPort_inhibit (p : Port) (f : PortUnit → PortUnit) : (s.modPort p f).inhibit = s.inhibit := by cases p <;> rfl
@[simp] theorem State.modPort_inhibitInput (p : Port) (f : PortUnit → PortUnit) : (s.modPort p f).inhibitInput = s.inhibitInput := by cases p <;> rfl
@[simp] theorem State.modPort_resetInput (p : Port) (f : PortUnit → PortUnit) : (s.modPort p f).resetInput = s.resetInput := by cases p <;> rfl
@[simp] theorem State.modPort_freeUsed (p : Port) (f : PortUnit → PortUnit) : (s.modPort p f).freeUsed = s.freeUsed := by cases p <;> rfl

@[simp] theorem State.modEvents_pending (p : Port) (f : EventUnit → EventUnit) : (s.modEvents p f).pending = s.pending := by cases p <;> rfl
@[simp] theorem State.modEvents_config (p : Port) (f : EventUnit → EventUnit) : (s.modEvents p f).config = s.config := by cases p <;> rfl
@[simp] theorem State.modEvents_mirror (p : Port) (f : EventUnit → EventUnit) : (s.modEvents p f).mirror = s.mirror := by cases p <;> rfl
@[simp] theorem State.modEvents_laneA (p : Port) (f : EventUnit → EventUnit) : (s.modEvents p f).laneA = s.laneA := by cases p <;> rfl
@[simp] theorem State.modEvents_laneB (p : Port) (f : EventUnit → EventUnit) : (s.modEvents p f).laneB = s.laneB := by cases p <;> rfl
@[simp] theorem State.modEvents_arbiter (p : Port) (f : EventUnit → EventUnit) : (s.modEvents p f).arbiter = s.arbiter := by cases p <;> rfl
@[simp] theorem State.modEvents_monitor (p : Port) (f : EventUnit → EventUnit) : (s.modEvents p f).monitor = s.monitor := by cases p <;> rfl
@[simp] theorem State.modEvents_route (p : Port) (f : EventUnit → EventUnit) : (s.modEvents p f).route = s.route := by cases p <;> rfl
@[simp] theorem State.modEvents_pumpRx (p : Port) (f : EventUnit → EventUnit) : (s.modEvents p f).pumpRx = s.pumpRx := by cases p <;> rfl
@[simp] theorem State.modEvents_pumpTx (p : Port) (f : EventUnit → EventUnit) : (s.modEvents p f).pumpTx = s.pumpTx := by cases p <;> rfl
@[simp] theorem State.modEvents_pumpCounters (p : Port) (f : EventUnit → EventUnit) : (s.modEvents p f).pumpCounters = s.pumpCounters := by cases p <;> rfl
@[simp] theorem State.modEvents_timestamp (p : Port) (f : EventUnit → EventUnit) : (s.modEvents p f).timestamp = s.timestamp := by cases p <;> rfl
@[simp] theorem State.modEvents_period (p : Port) (f : EventUnit → EventUnit) : (s.modEvents p f).period = s.period := by cases p <;> rfl
@[simp] theorem State.modEvents_evaluationDue (p : Port) (f : EventUnit → EventUnit) : (s.modEvents p f).evaluationDue = s.evaluationDue := by cases p <;> rfl
@[simp] theorem State.modEvents_valveDue (p : Port) (f : EventUnit → EventUnit) : (s.modEvents p f).valveDue = s.valveDue := by cases p <;> rfl
@[simp] theorem State.modEvents_inhibit (p : Port) (f : EventUnit → EventUnit) : (s.modEvents p f).inhibit = s.inhibit := by cases p <;> rfl
@[simp] theorem State.modEvents_inhibitInput (p : Port) (f : EventUnit → EventUnit) : (s.modEvents p f).inhibitInput = s.inhibitInput := by cases p <;> rfl
@[simp] theorem State.modEvents_resetInput (p : Port) (f : EventUnit → EventUnit) : (s.modEvents p f).resetInput = s.resetInput := by cases p <;> rfl
@[simp] theorem State.modEvents_freeUsed (p : Port) (f : EventUnit → EventUnit) : (s.modEvents p f).freeUsed = s.freeUsed := by cases p <;> rfl

@[simp] theorem State.countPort_pending (p : Port) (f : PortCounters → PortCounters) : (s.countPort p f).pending = s.pending := by cases p <;> rfl
@[simp] theorem State.countPort_config (p : Port) (f : PortCounters → PortCounters) : (s.countPort p f).config = s.config := by cases p <;> rfl
@[simp] theorem State.countPort_mirror (p : Port) (f : PortCounters → PortCounters) : (s.countPort p f).mirror = s.mirror := by cases p <;> rfl
@[simp] theorem State.countPort_laneA (p : Port) (f : PortCounters → PortCounters) : (s.countPort p f).laneA = s.laneA := by cases p <;> rfl
@[simp] theorem State.countPort_laneB (p : Port) (f : PortCounters → PortCounters) : (s.countPort p f).laneB = s.laneB := by cases p <;> rfl
@[simp] theorem State.countPort_arbiter (p : Port) (f : PortCounters → PortCounters) : (s.countPort p f).arbiter = s.arbiter := by cases p <;> rfl
@[simp] theorem State.countPort_monitor (p : Port) (f : PortCounters → PortCounters) : (s.countPort p f).monitor = s.monitor := by cases p <;> rfl
@[simp] theorem State.countPort_route (p : Port) (f : PortCounters → PortCounters) : (s.countPort p f).route = s.route := by cases p <;> rfl
@[simp] theorem State.countPort_pumpRx (p : Port) (f : PortCounters → PortCounters) : (s.countPort p f).pumpRx = s.pumpRx := by cases p <;> rfl
@[simp] theorem State.countPort_pumpTx (p : Port) (f : PortCounters → PortCounters) : (s.countPort p f).pumpTx = s.pumpTx := by cases p <;> rfl
@[simp] theorem State.countPort_pumpCounters (p : Port) (f : PortCounters → PortCounters) : (s.countPort p f).pumpCounters = s.pumpCounters := by cases p <;> rfl
@[simp] theorem State.countPort_timestamp (p : Port) (f : PortCounters → PortCounters) : (s.countPort p f).timestamp = s.timestamp := by cases p <;> rfl
@[simp] theorem State.countPort_period (p : Port) (f : PortCounters → PortCounters) : (s.countPort p f).period = s.period := by cases p <;> rfl
@[simp] theorem State.countPort_evaluationDue (p : Port) (f : PortCounters → PortCounters) : (s.countPort p f).evaluationDue = s.evaluationDue := by cases p <;> rfl
@[simp] theorem State.countPort_valveDue (p : Port) (f : PortCounters → PortCounters) : (s.countPort p f).valveDue = s.valveDue := by cases p <;> rfl
@[simp] theorem State.countPort_inhibit (p : Port) (f : PortCounters → PortCounters) : (s.countPort p f).inhibit = s.inhibit := by cases p <;> rfl
@[simp] theorem State.countPort_inhibitInput (p : Port) (f : PortCounters → PortCounters) : (s.countPort p f).inhibitInput = s.inhibitInput := by cases p <;> rfl
@[simp] theorem State.countPort_resetInput (p : Port) (f : PortCounters → PortCounters) : (s.countPort p f).resetInput = s.resetInput := by cases p <;> rfl
@[simp] theorem State.countPort_freeUsed (p : Port) (f : PortCounters → PortCounters) : (s.countPort p f).freeUsed = s.freeUsed := by cases p <;> rfl

@[simp] theorem State.modArbiter_pending (f : Arbiter → Arbiter) : (s.modArbiter f).pending = s.pending := rfl
@[simp] theorem State.modArbiter_config (f : Arbiter → Arbiter) : (s.modArbiter f).config = s.config := rfl
@[simp] theorem State.modArbiter_mirror (f : Arbiter → Arbiter) : (s.modArbiter f).mirror = s.mirror := rfl
@[simp] theorem State.modArbiter_laneA (f : Arbiter → Arbiter) : (s.modArbiter f).laneA = s.laneA := rfl
@[simp] theorem State.modArbiter_laneB (f : Arbiter → Arbiter) : (s.modArbiter f).laneB = s.laneB := rfl
@[simp] theorem State.modArbiter_monitor (f : Arbiter → Arbiter) : (s.modArbiter f).monitor = s.monitor := rfl
@[simp] theorem State.modArbiter_portA (f : Arbiter → Arbiter) : (s.modArbiter f).portA = s.portA := rfl
@[simp] theorem State.modArbiter_portB (f : Arbiter → Arbiter) : (s.modArbiter f).portB = s.portB := rfl
@[simp] theorem State.modArbiter_portC (f : Arbiter → Arbiter) : (s.modArbiter f).portC = s.portC := rfl
@[simp] theorem State.modArbiter_route (f : Arbiter → Arbiter) : (s.modArbiter f).route = s.route := rfl
@[simp] theorem State.modArbiter_pumpRx (f : Arbiter → Arbiter) : (s.modArbiter f).pumpRx = s.pumpRx := rfl
@[simp] theorem State.modArbiter_pumpTx (f : Arbiter → Arbiter) : (s.modArbiter f).pumpTx = s.pumpTx := rfl
@[simp] theorem State.modArbiter_pumpCounters (f : Arbiter → Arbiter) : (s.modArbiter f).pumpCounters = s.pumpCounters := rfl
@[simp] theorem State.modArbiter_timestamp (f : Arbiter → Arbiter) : (s.modArbiter f).timestamp = s.timestamp := rfl
@[simp] theorem State.modArbiter_period (f : Arbiter → Arbiter) : (s.modArbiter f).period = s.period := rfl
@[simp] theorem State.modArbiter_evaluationDue (f : Arbiter → Arbiter) : (s.modArbiter f).evaluationDue = s.evaluationDue := rfl
@[simp] theorem State.modArbiter_valveDue (f : Arbiter → Arbiter) : (s.modArbiter f).valveDue = s.valveDue := rfl
@[simp] theorem State.modArbiter_inhibit (f : Arbiter → Arbiter) : (s.modArbiter f).inhibit = s.inhibit := rfl
@[simp] theorem State.modArbiter_inhibitInput (f : Arbiter → Arbiter) : (s.modArbiter f).inhibitInput = s.inhibitInput := rfl
@[simp] theorem State.modArbiter_resetInput (f : Arbiter → Arbiter) : (s.modArbiter f).resetInput = s.resetInput := rfl
@[simp] theorem State.modArbiter_freeUsed (f : Arbiter → Arbiter) : (s.modArbiter f).freeUsed = s.freeUsed := rfl

@[simp] theorem State.modMonitor_pending (f : Monitor → Monitor) : (s.modMonitor f).pending = s.pending := rfl
@[simp] theorem State.modMonitor_config (f : Monitor → Monitor) : (s.modMonitor f).config = s.config := rfl
@[simp] theorem State.modMonitor_mirror (f : Monitor → Monitor) : (s.modMonitor f).mirror = s.mirror := rfl
@[simp] theorem State.modMonitor_laneA (f : Monitor → Monitor) : (s.modMonitor f).laneA = s.laneA := rfl
@[simp] theorem State.modMonitor_laneB (f : Monitor → Monitor) : (s.modMonitor f).laneB = s.laneB := rfl
@[simp] theorem State.modMonitor_arbiter (f : Monitor → Monitor) : (s.modMonitor f).arbiter = s.arbiter := rfl
@[simp] theorem State.modMonitor_portA (f : Monitor → Monitor) : (s.modMonitor f).portA = s.portA := rfl
@[simp] theorem State.modMonitor_portB (f : Monitor → Monitor) : (s.modMonitor f).portB = s.portB := rfl
@[simp] theorem State.modMonitor_portC (f : Monitor → Monitor) : (s.modMonitor f).portC = s.portC := rfl
@[simp] theorem State.modMonitor_route (f : Monitor → Monitor) : (s.modMonitor f).route = s.route := rfl
@[simp] theorem State.modMonitor_pumpRx (f : Monitor → Monitor) : (s.modMonitor f).pumpRx = s.pumpRx := rfl
@[simp] theorem State.modMonitor_pumpTx (f : Monitor → Monitor) : (s.modMonitor f).pumpTx = s.pumpTx := rfl
@[simp] theorem State.modMonitor_pumpCounters (f : Monitor → Monitor) : (s.modMonitor f).pumpCounters = s.pumpCounters := rfl
@[simp] theorem State.modMonitor_timestamp (f : Monitor → Monitor) : (s.modMonitor f).timestamp = s.timestamp := rfl
@[simp] theorem State.modMonitor_period (f : Monitor → Monitor) : (s.modMonitor f).period = s.period := rfl
@[simp] theorem State.modMonitor_evaluationDue (f : Monitor → Monitor) : (s.modMonitor f).evaluationDue = s.evaluationDue := rfl
@[simp] theorem State.modMonitor_valveDue (f : Monitor → Monitor) : (s.modMonitor f).valveDue = s.valveDue := rfl
@[simp] theorem State.modMonitor_inhibit (f : Monitor → Monitor) : (s.modMonitor f).inhibit = s.inhibit := rfl
@[simp] theorem State.modMonitor_inhibitInput (f : Monitor → Monitor) : (s.modMonitor f).inhibitInput = s.inhibitInput := rfl
@[simp] theorem State.modMonitor_resetInput (f : Monitor → Monitor) : (s.modMonitor f).resetInput = s.resetInput := rfl
@[simp] theorem State.modMonitor_freeUsed (f : Monitor → Monitor) : (s.modMonitor f).freeUsed = s.freeUsed := rfl

@[simp] theorem State.countPump_pending (f : PumpCounters → PumpCounters) : (s.countPump f).pending = s.pending := rfl
@[simp] theorem State.countPump_config (f : PumpCounters → PumpCounters) : (s.countPump f).config = s.config := rfl
@[simp] theorem State.countPump_mirror (f : PumpCounters → PumpCounters) : (s.countPump f).mirror = s.mirror := rfl
@[simp] theorem State.countPump_laneA (f : PumpCounters → PumpCounters) : (s.countPump f).laneA = s.laneA := rfl
@[simp] theorem State.countPump_laneB (f : PumpCounters → PumpCounters) : (s.countPump f).laneB = s.laneB := rfl
@[simp] theorem State.countPump_arbiter (f : PumpCounters → PumpCounters) : (s.countPump f).arbiter = s.arbiter := rfl
@[simp] theorem State.countPump_monitor (f : PumpCounters → PumpCounters) : (s.countPump f).monitor = s.monitor := rfl
@[simp] theorem State.countPump_portA (f : PumpCounters → PumpCounters) : (s.countPump f).portA = s.portA := rfl
@[simp] theorem State.countPump_portB (f : PumpCounters → PumpCounters) : (s.countPump f).portB = s.portB := rfl
@[simp] theorem State.countPump_portC (f : PumpCounters → PumpCounters) : (s.countPump f).portC = s.portC := rfl
@[simp] theorem State.countPump_route (f : PumpCounters → PumpCounters) : (s.countPump f).route = s.route := rfl
@[simp] theorem State.countPump_pumpRx (f : PumpCounters → PumpCounters) : (s.countPump f).pumpRx = s.pumpRx := rfl
@[simp] theorem State.countPump_pumpTx (f : PumpCounters → PumpCounters) : (s.countPump f).pumpTx = s.pumpTx := rfl
@[simp] theorem State.countPump_timestamp (f : PumpCounters → PumpCounters) : (s.countPump f).timestamp = s.timestamp := rfl
@[simp] theorem State.countPump_period (f : PumpCounters → PumpCounters) : (s.countPump f).period = s.period := rfl
@[simp] theorem State.countPump_evaluationDue (f : PumpCounters → PumpCounters) : (s.countPump f).evaluationDue = s.evaluationDue := rfl
@[simp] theorem State.countPump_valveDue (f : PumpCounters → PumpCounters) : (s.countPump f).valveDue = s.valveDue := rfl
@[simp] theorem State.countPump_inhibit (f : PumpCounters → PumpCounters) : (s.countPump f).inhibit = s.inhibit := rfl
@[simp] theorem State.countPump_inhibitInput (f : PumpCounters → PumpCounters) : (s.countPump f).inhibitInput = s.inhibitInput := rfl
@[simp] theorem State.countPump_resetInput (f : PumpCounters → PumpCounters) : (s.countPump f).resetInput = s.resetInput := rfl
@[simp] theorem State.countPump_freeUsed (f : PumpCounters → PumpCounters) : (s.countPump f).freeUsed = s.freeUsed := rfl

@[simp] theorem State.modTx_pending (l : Link) (f : List (List Byte) → List (List Byte)) : (s.modTx l f).pending = s.pending := by cases l <;> rfl
@[simp] theorem State.modTx_config (l : Link) (f : List (List Byte) → List (List Byte)) : (s.modTx l f).config = s.config := by cases l <;> rfl
@[simp] theorem State.modTx_mirror (l : Link) (f : List (List Byte) → List (List Byte)) : (s.modTx l f).mirror = s.mirror := by cases l <;> rfl
@[simp] theorem State.modTx_laneA (l : Link) (f : List (List Byte) → List (List Byte)) : (s.modTx l f).laneA = s.laneA := by cases l <;> rfl
@[simp] theorem State.modTx_laneB (l : Link) (f : List (List Byte) → List (List Byte)) : (s.modTx l f).laneB = s.laneB := by cases l <;> rfl
@[simp] theorem State.modTx_arbiter (l : Link) (f : List (List Byte) → List (List Byte)) : (s.modTx l f).arbiter = s.arbiter := by cases l <;> rfl
@[simp] theorem State.modTx_monitor (l : Link) (f : List (List Byte) → List (List Byte)) : (s.modTx l f).monitor = s.monitor := by cases l <;> rfl
@[simp] theorem State.modTx_route (l : Link) (f : List (List Byte) → List (List Byte)) : (s.modTx l f).route = s.route := by cases l <;> rfl
@[simp] theorem State.modTx_pumpRx (l : Link) (f : List (List Byte) → List (List Byte)) : (s.modTx l f).pumpRx = s.pumpRx := by cases l <;> rfl
@[simp] theorem State.modTx_pumpCounters (l : Link) (f : List (List Byte) → List (List Byte)) : (s.modTx l f).pumpCounters = s.pumpCounters := by cases l <;> rfl
@[simp] theorem State.modTx_timestamp (l : Link) (f : List (List Byte) → List (List Byte)) : (s.modTx l f).timestamp = s.timestamp := by cases l <;> rfl
@[simp] theorem State.modTx_period (l : Link) (f : List (List Byte) → List (List Byte)) : (s.modTx l f).period = s.period := by cases l <;> rfl
@[simp] theorem State.modTx_evaluationDue (l : Link) (f : List (List Byte) → List (List Byte)) : (s.modTx l f).evaluationDue = s.evaluationDue := by cases l <;> rfl
@[simp] theorem State.modTx_valveDue (l : Link) (f : List (List Byte) → List (List Byte)) : (s.modTx l f).valveDue = s.valveDue := by cases l <;> rfl
@[simp] theorem State.modTx_inhibit (l : Link) (f : List (List Byte) → List (List Byte)) : (s.modTx l f).inhibit = s.inhibit := by cases l <;> rfl
@[simp] theorem State.modTx_inhibitInput (l : Link) (f : List (List Byte) → List (List Byte)) : (s.modTx l f).inhibitInput = s.inhibitInput := by cases l <;> rfl
@[simp] theorem State.modTx_resetInput (l : Link) (f : List (List Byte) → List (List Byte)) : (s.modTx l f).resetInput = s.resetInput := by cases l <;> rfl
@[simp] theorem State.modTx_freeUsed (l : Link) (f : List (List Byte) → List (List Byte)) : (s.modTx l f).freeUsed = s.freeUsed := by cases l <;> rfl

@[simp] theorem State.setRx_pending (l : Link) (r : Receiver) : (s.setRx l r).pending = s.pending := by cases l <;> rfl
@[simp] theorem State.setRx_config (l : Link) (r : Receiver) : (s.setRx l r).config = s.config := by cases l <;> rfl
@[simp] theorem State.setRx_mirror (l : Link) (r : Receiver) : (s.setRx l r).mirror = s.mirror := by cases l <;> rfl
@[simp] theorem State.setRx_laneA (l : Link) (r : Receiver) : (s.setRx l r).laneA = s.laneA := by cases l <;> rfl
@[simp] theorem State.setRx_laneB (l : Link) (r : Receiver) : (s.setRx l r).laneB = s.laneB := by cases l <;> rfl
@[simp] theorem State.setRx_arbiter (l : Link) (r : Receiver) : (s.setRx l r).arbiter = s.arbiter := by cases l <;> rfl
@[simp] theorem State.setRx_monitor (l : Link) (r : Receiver) : (s.setRx l r).monitor = s.monitor := by cases l <;> rfl
@[simp] theorem State.setRx_route (l : Link) (r : Receiver) : (s.setRx l r).route = s.route := by cases l <;> rfl
@[simp] theorem State.setRx_pumpTx (l : Link) (r : Receiver) : (s.setRx l r).pumpTx = s.pumpTx := by cases l <;> rfl
@[simp] theorem State.setRx_pumpCounters (l : Link) (r : Receiver) : (s.setRx l r).pumpCounters = s.pumpCounters := by cases l <;> rfl
@[simp] theorem State.setRx_timestamp (l : Link) (r : Receiver) : (s.setRx l r).timestamp = s.timestamp := by cases l <;> rfl
@[simp] theorem State.setRx_period (l : Link) (r : Receiver) : (s.setRx l r).period = s.period := by cases l <;> rfl
@[simp] theorem State.setRx_evaluationDue (l : Link) (r : Receiver) : (s.setRx l r).evaluationDue = s.evaluationDue := by cases l <;> rfl
@[simp] theorem State.setRx_valveDue (l : Link) (r : Receiver) : (s.setRx l r).valveDue = s.valveDue := by cases l <;> rfl
@[simp] theorem State.setRx_inhibit (l : Link) (r : Receiver) : (s.setRx l r).inhibit = s.inhibit := by cases l <;> rfl
@[simp] theorem State.setRx_inhibitInput (l : Link) (r : Receiver) : (s.setRx l r).inhibitInput = s.inhibitInput := by cases l <;> rfl
@[simp] theorem State.setRx_resetInput (l : Link) (r : Receiver) : (s.setRx l r).resetInput = s.resetInput := by cases l <;> rfl
@[simp] theorem State.setRx_freeUsed (l : Link) (r : Receiver) : (s.setRx l r).freeUsed = s.freeUsed := by cases l <;> rfl

@[simp] theorem State.modSeq_lane_seq (L : Lane) (f : Sequencer → Sequencer) : ((s.modSeq L f).lane L).seq = f (s.lane L).seq := by
  cases L <;> rfl
@[simp] theorem State.modSeq_lane_queue (L M : Lane) (f : Sequencer → Sequencer) : ((s.modSeq L f).lane M).queue = (s.lane M).queue := by
  cases L <;> cases M <;> rfl
@[simp] theorem State.modSeq_lane_fifo (L M : Lane) (f : Sequencer → Sequencer) : ((s.modSeq L f).lane M).fifo = (s.lane M).fifo := by
  cases L <;> cases M <;> rfl
@[simp] theorem State.modSeq_lane_gov (L M : Lane) (f : Sequencer → Sequencer) : ((s.modSeq L f).lane M).gov = (s.lane M).gov := by
  cases L <;> cases M <;> rfl
@[simp] theorem State.modSeq_lane_gen (L M : Lane) (f : Sequencer → Sequencer) : ((s.modSeq L f).lane M).gen = (s.lane M).gen := by
  cases L <;> cases M <;> rfl
@[simp] theorem State.modSeq_lane_mon (L M : Lane) (f : Sequencer → Sequencer) : ((s.modSeq L f).lane M).mon = (s.lane M).mon := by
  cases L <;> cases M <;> rfl
@[simp] theorem State.modSeq_lane_filter (L M : Lane) (f : Sequencer → Sequencer) : ((s.modSeq L f).lane M).filter = (s.lane M).filter := by
  cases L <;> cases M <;> rfl
@[simp] theorem State.modSeq_lane_counters (L M : Lane) (f : Sequencer → Sequencer) : ((s.modSeq L f).lane M).counters = (s.lane M).counters := by
  cases L <;> cases M <;> rfl
@[simp] theorem State.modSeq_lane_other (L : Lane) (f : Sequencer → Sequencer) : (s.modSeq L f).lane L.other = s.lane L.other := by
  cases L <;> rfl

@[simp] theorem State.modQueue_lane_seq (L M : Lane) (f : LaneQueue → LaneQueue) : ((s.modQueue L f).lane M).seq = (s.lane M).seq := by
  cases L <;> cases M <;> rfl
@[simp] theorem State.modQueue_lane_queue (L : Lane) (f : LaneQueue → LaneQueue) : ((s.modQueue L f).lane L).queue = f (s.lane L).queue := by
  cases L <;> rfl
@[simp] theorem State.modQueue_lane_fifo (L M : Lane) (f : LaneQueue → LaneQueue) : ((s.modQueue L f).lane M).fifo = (s.lane M).fifo := by
  cases L <;> cases M <;> rfl
@[simp] theorem State.modQueue_lane_gov (L M : Lane) (f : LaneQueue → LaneQueue) : ((s.modQueue L f).lane M).gov = (s.lane M).gov := by
  cases L <;> cases M <;> rfl
@[simp] theorem State.modQueue_lane_gen (L M : Lane) (f : LaneQueue → LaneQueue) : ((s.modQueue L f).lane M).gen = (s.lane M).gen := by
  cases L <;> cases M <;> rfl
@[simp] theorem State.modQueue_lane_mon (L M : Lane) (f : LaneQueue → LaneQueue) : ((s.modQueue L f).lane M).mon = (s.lane M).mon := by
  cases L <;> cases M <;> rfl
@[simp] theorem State.modQueue_lane_filter (L M : Lane) (f : LaneQueue → LaneQueue) : ((s.modQueue L f).lane M).filter = (s.lane M).filter := by
  cases L <;> cases M <;> rfl
@[simp] theorem State.modQueue_lane_counters (L M : Lane) (f : LaneQueue → LaneQueue) : ((s.modQueue L f).lane M).counters = (s.lane M).counters := by
  cases L <;> cases M <;> rfl
@[simp] theorem State.modQueue_lane_other (L : Lane) (f : LaneQueue → LaneQueue) : (s.modQueue L f).lane L.other = s.lane L.other := by
  cases L <;> rfl

@[simp] theorem State.modGov_lane_seq (L M : Lane) (f : Governor → Governor) : ((s.modGov L f).lane M).seq = (s.lane M).seq := by
  cases L <;> cases M <;> rfl
@[simp] theorem State.modGov_lane_queue (L M : Lane) (f : Governor → Governor) : ((s.modGov L f).lane M).queue = (s.lane M).queue := by
  cases L <;> cases M <;> rfl
@[simp] theorem State.modGov_lane_fifo (L M : Lane) (f : Governor → Governor) : ((s.modGov L f).lane M).fifo = (s.lane M).fifo := by
  cases L <;> cases M <;> rfl
@[simp] theorem State.modGov_lane_gov (L : Lane) (f : Governor → Governor) : ((s.modGov L f).lane L).gov = f (s.lane L).gov := by
  cases L <;> rfl
@[simp] theorem State.modGov_lane_gen (L M : Lane) (f : Governor → Governor) : ((s.modGov L f).lane M).gen = (s.lane M).gen := by
  cases L <;> cases M <;> rfl
@[simp] theorem State.modGov_lane_mon (L M : Lane) (f : Governor → Governor) : ((s.modGov L f).lane M).mon = (s.lane M).mon := by
  cases L <;> cases M <;> rfl
@[simp] theorem State.modGov_lane_filter (L M : Lane) (f : Governor → Governor) : ((s.modGov L f).lane M).filter = (s.lane M).filter := by
  cases L <;> cases M <;> rfl
@[simp] theorem State.modGov_lane_counters (L M : Lane) (f : Governor → Governor) : ((s.modGov L f).lane M).counters = (s.lane M).counters := by
  cases L <;> cases M <;> rfl
@[simp] theorem State.modGov_lane_other (L : Lane) (f : Governor → Governor) : (s.modGov L f).lane L.other = s.lane L.other := by
  cases L <;> rfl

@[simp] theorem State.modGen_lane_seq (L M : Lane) (f : Generator → Generator) : ((s.modGen L f).lane M).seq = (s.lane M).seq := by
  cases L <;> cases M <;> rfl
@[simp] theorem State.modGen_lane_queue (L M : Lane) (f : Generator → Generator) : ((s.modGen L f).lane M).queue = (s.lane M).queue := by
  cases L <;> cases M <;> rfl
@[simp] theorem State.modGen_lane_fifo (L M : Lane) (f : Generator → Generator) : ((s.modGen L f).lane M).fifo = (s.lane M).fifo := by
  cases L <;> cases M <;> rfl
@[simp] theorem State.modGen_lane_gov (L M : Lane) (f : Generator → Generator) : ((s.modGen L f).lane M).gov = (s.lane M).gov := by
  cases L <;> cases M <;> rfl
@[simp] theorem State.modGen_lane_gen (L : Lane) (f : Generator → Generator) : ((s.modGen L f).lane L).gen = f (s.lane L).gen := by
  cases L <;> rfl
@[simp] theorem State.modGen_lane_mon (L M : Lane) (f : Generator → Generator) : ((s.modGen L f).lane M).mon = (s.lane M).mon := by
  cases L <;> cases M <;> rfl
@[simp] theorem State.modGen_lane_filter (L M : Lane) (f : Generator → Generator) : ((s.modGen L f).lane M).filter = (s.lane M).filter := by
  cases L <;> cases M <;> rfl
@[simp] theorem State.modGen_lane_counters (L M : Lane) (f : Generator → Generator) : ((s.modGen L f).lane M).counters = (s.lane M).counters := by
  cases L <;> cases M <;> rfl
@[simp] theorem State.modGen_lane_other (L : Lane) (f : Generator → Generator) : (s.modGen L f).lane L.other = s.lane L.other := by
  cases L <;> rfl

@[simp] theorem State.modMon_lane_seq (L M : Lane) (f : FlowMonitor → FlowMonitor) : ((s.modMon L f).lane M).seq = (s.lane M).seq := by
  cases L <;> cases M <;> rfl
@[simp] theorem State.modMon_lane_queue (L M : Lane) (f : FlowMonitor → FlowMonitor) : ((s.modMon L f).lane M).queue = (s.lane M).queue := by
  cases L <;> cases M <;> rfl
@[simp] theorem State.modMon_lane_fifo (L M : Lane) (f : FlowMonitor → FlowMonitor) : ((s.modMon L f).lane M).fifo = (s.lane M).fifo := by
  cases L <;> cases M <;> rfl
@[simp] theorem State.modMon_lane_gov (L M : Lane) (f : FlowMonitor → FlowMonitor) : ((s.modMon L f).lane M).gov = (s.lane M).gov := by
  cases L <;> cases M <;> rfl
@[simp] theorem State.modMon_lane_gen (L M : Lane) (f : FlowMonitor → FlowMonitor) : ((s.modMon L f).lane M).gen = (s.lane M).gen := by
  cases L <;> cases M <;> rfl
@[simp] theorem State.modMon_lane_mon (L : Lane) (f : FlowMonitor → FlowMonitor) : ((s.modMon L f).lane L).mon = f (s.lane L).mon := by
  cases L <;> rfl
@[simp] theorem State.modMon_lane_filter (L M : Lane) (f : FlowMonitor → FlowMonitor) : ((s.modMon L f).lane M).filter = (s.lane M).filter := by
  cases L <;> cases M <;> rfl
@[simp] theorem State.modMon_lane_counters (L M : Lane) (f : FlowMonitor → FlowMonitor) : ((s.modMon L f).lane M).counters = (s.lane M).counters := by
  cases L <;> cases M <;> rfl
@[simp] theorem State.modMon_lane_other (L : Lane) (f : FlowMonitor → FlowMonitor) : (s.modMon L f).lane L.other = s.lane L.other := by
  cases L <;> rfl

@[simp] theorem State.modFilter_lane_seq (L M : Lane) (f : FlowFilter → FlowFilter) : ((s.modFilter L f).lane M).seq = (s.lane M).seq := by
  cases L <;> cases M <;> rfl
@[simp] theorem State.modFilter_lane_queue (L M : Lane) (f : FlowFilter → FlowFilter) : ((s.modFilter L f).lane M).queue = (s.lane M).queue := by
  cases L <;> cases M <;> rfl
@[simp] theorem State.modFilter_lane_fifo (L M : Lane) (f : FlowFilter → FlowFilter) : ((s.modFilter L f).lane M).fifo = (s.lane M).fifo := by
  cases L <;> cases M <;> rfl
@[simp] theorem State.modFilter_lane_gov (L M : Lane) (f : FlowFilter → FlowFilter) : ((s.modFilter L f).lane M).gov = (s.lane M).gov := by
  cases L <;> cases M <;> rfl
@[simp] theorem State.modFilter_lane_gen (L M : Lane) (f : FlowFilter → FlowFilter) : ((s.modFilter L f).lane M).gen = (s.lane M).gen := by
  cases L <;> cases M <;> rfl
@[simp] theorem State.modFilter_lane_mon (L M : Lane) (f : FlowFilter → FlowFilter) : ((s.modFilter L f).lane M).mon = (s.lane M).mon := by
  cases L <;> cases M <;> rfl
@[simp] theorem State.modFilter_lane_filter (L : Lane) (f : FlowFilter → FlowFilter) : ((s.modFilter L f).lane L).filter = f (s.lane L).filter := by
  cases L <;> rfl
@[simp] theorem State.modFilter_lane_counters (L M : Lane) (f : FlowFilter → FlowFilter) : ((s.modFilter L f).lane M).counters = (s.lane M).counters := by
  cases L <;> cases M <;> rfl
@[simp] theorem State.modFilter_lane_other (L : Lane) (f : FlowFilter → FlowFilter) : (s.modFilter L f).lane L.other = s.lane L.other := by
  cases L <;> rfl

@[simp] theorem State.countLane_lane_seq (L M : Lane) (f : LaneCounters → LaneCounters) : ((s.countLane L f).lane M).seq = (s.lane M).seq := by
  cases L <;> cases M <;> rfl
@[simp] theorem State.countLane_lane_queue (L M : Lane) (f : LaneCounters → LaneCounters) : ((s.countLane L f).lane M).queue = (s.lane M).queue := by
  cases L <;> cases M <;> rfl
@[simp] theorem State.countLane_lane_fifo (L M : Lane) (f : LaneCounters → LaneCounters) : ((s.countLane L f).lane M).fifo = (s.lane M).fifo := by
  cases L <;> cases M <;> rfl
@[simp] theorem State.countLane_lane_gov (L M : Lane) (f : LaneCounters → LaneCounters) : ((s.countLane L f).lane M).gov = (s.lane M).gov := by
  cases L <;> cases M <;> rfl
@[simp] theorem State.countLane_lane_gen (L M : Lane) (f : LaneCounters → LaneCounters) : ((s.countLane L f).lane M).gen = (s.lane M).gen := by
  cases L <;> cases M <;> rfl
@[simp] theorem State.countLane_lane_mon (L M : Lane) (f : LaneCounters → LaneCounters) : ((s.countLane L f).lane M).mon = (s.lane M).mon := by
  cases L <;> cases M <;> rfl
@[simp] theorem State.countLane_lane_filter (L M : Lane) (f : LaneCounters → LaneCounters) : ((s.countLane L f).lane M).filter = (s.lane M).filter := by
  cases L <;> cases M <;> rfl
@[simp] theorem State.countLane_lane_counters (L : Lane) (f : LaneCounters → LaneCounters) : ((s.countLane L f).lane L).counters = f (s.lane L).counters := by
  cases L <;> rfl
@[simp] theorem State.countLane_lane_other (L : Lane) (f : LaneCounters → LaneCounters) : (s.countLane L f).lane L.other = s.lane L.other := by
  cases L <;> rfl

@[simp] theorem State.modLane_lane (L : Lane) (f : LaneUnit → LaneUnit) : (s.modLane L f).lane L = f (s.lane L) := by
  cases L <;> rfl

@[simp] theorem State.modLane_lane_other (L : Lane) (f : LaneUnit → LaneUnit) :
    (s.modLane L f).lane L.other = s.lane L.other := by
  cases L <;> rfl

@[simp] theorem State.modPort_port (p : Port) (f : PortUnit → PortUnit) : (s.modPort p f).port p = f (s.port p) := by
  cases p <;> rfl

theorem State.modPort_port_ne {p q : Port} (h : q ≠ p) (f : PortUnit → PortUnit) : (s.modPort p f).port q = s.port q := by
  cases p <;> cases q <;> first | rfl | exact absurd rfl h

/-- Reading one lane after changing one. -/
theorem State.modLane_lane_eq (L M : Lane) (f : LaneUnit → LaneUnit) :
    (s.modLane L f).lane M = if M = L then f (s.lane L) else s.lane M := by
  cases L <;> cases M <;> rfl

@[simp] theorem State.modPort_lane (p : Port) (f : PortUnit → PortUnit) (M : Lane) : (s.modPort p f).lane M = s.lane M := by
  cases M <;> simp [State.lane]
@[simp] theorem State.modEvents_lane (p : Port) (f : EventUnit → EventUnit) (M : Lane) : (s.modEvents p f).lane M = s.lane M := by
  cases M <;> simp [State.lane]
@[simp] theorem State.countPort_lane (p : Port) (f : PortCounters → PortCounters) (M : Lane) : (s.countPort p f).lane M = s.lane M := by
  cases M <;> simp [State.lane]
@[simp] theorem State.modArbiter_lane (f : Arbiter → Arbiter) (M : Lane) : (s.modArbiter f).lane M = s.lane M := by
  cases M <;> simp [State.lane]
@[simp] theorem State.modMonitor_lane (f : Monitor → Monitor) (M : Lane) : (s.modMonitor f).lane M = s.lane M := by
  cases M <;> simp [State.lane]
@[simp] theorem State.countPump_lane (f : PumpCounters → PumpCounters) (M : Lane) : (s.countPump f).lane M = s.lane M := by
  cases M <;> simp [State.lane]
@[simp] theorem State.modTx_lane (l : Link) (f : List (List Byte) → List (List Byte)) (M : Lane) : (s.modTx l f).lane M = s.lane M := by
  cases M <;> simp [State.lane]
@[simp] theorem State.setRx_lane (l : Link) (r : Receiver) (M : Lane) : (s.setRx l r).lane M = s.lane M := by
  cases M <;> simp [State.lane]
@[simp] theorem State.modLane_port (L : Lane) (f : LaneUnit → LaneUnit) (q : Port) : (s.modLane L f).port q = s.port q := by
  cases q <;> simp [State.port]
@[simp] theorem State.modSeq_port (L : Lane) (f : Sequencer → Sequencer) (q : Port) : (s.modSeq L f).port q = s.port q := by
  cases q <;> simp [State.port]
@[simp] theorem State.modQueue_port (L : Lane) (f : LaneQueue → LaneQueue) (q : Port) : (s.modQueue L f).port q = s.port q := by
  cases q <;> simp [State.port]
@[simp] theorem State.modGov_port (L : Lane) (f : Governor → Governor) (q : Port) : (s.modGov L f).port q = s.port q := by
  cases q <;> simp [State.port]
@[simp] theorem State.modGen_port (L : Lane) (f : Generator → Generator) (q : Port) : (s.modGen L f).port q = s.port q := by
  cases q <;> simp [State.port]
@[simp] theorem State.modMon_port (L : Lane) (f : FlowMonitor → FlowMonitor) (q : Port) : (s.modMon L f).port q = s.port q := by
  cases q <;> simp [State.port]
@[simp] theorem State.modFilter_port (L : Lane) (f : FlowFilter → FlowFilter) (q : Port) : (s.modFilter L f).port q = s.port q := by
  cases q <;> simp [State.port]
@[simp] theorem State.countLane_port (L : Lane) (f : LaneCounters → LaneCounters) (q : Port) : (s.countLane L f).port q = s.port q := by
  cases q <;> simp [State.port]
@[simp] theorem State.modArbiter_port (f : Arbiter → Arbiter) (q : Port) : (s.modArbiter f).port q = s.port q := by
  cases q <;> simp [State.port]
@[simp] theorem State.modMonitor_port (f : Monitor → Monitor) (q : Port) : (s.modMonitor f).port q = s.port q := by
  cases q <;> simp [State.port]
@[simp] theorem State.countPump_port (f : PumpCounters → PumpCounters) (q : Port) : (s.countPump f).port q = s.port q := by
  cases q <;> simp [State.port]

end Sys2Proof.Machine
end

