-- ==== Sys2Proof/Laws/Base.lean ====
section
/-! SUPPORT. The part of the state that the lanes, the arbiter and the monitor never touch: every operation of theirs
leaves it as it was. -/

namespace Sys2Proof.Machine

/-- What the lanes, the arbiter and the monitor leave alone. -/
structure Base where
  pending : List Instr
  config : ConfigStore
  mirror : Bool
  route : BitVec 16
  pumpRx : Receiver
  timestamp : Nat
  period : Nat
  evaluationDue : Bool
  inhibit : Bool
  inhibitInput : Bool
  resetInput : Bool
  freeUsed : Nat

/-- The base of a state. -/
def State.base (s : State) : Base :=
  { pending := s.pending, config := s.config, mirror := s.mirror, route := s.route, pumpRx := s.pumpRx
    timestamp := s.timestamp, period := s.period, evaluationDue := s.evaluationDue, inhibit := s.inhibit
    inhibitInput := s.inhibitInput, resetInput := s.resetInput, freeUsed := s.freeUsed }

variable (s : State)

theorem State.pending_of_base {s t : State} (h : t.base = s.base) : t.pending = s.pending := congrArg Base.pending h
theorem State.config_of_base {s t : State} (h : t.base = s.base) : t.config = s.config := congrArg Base.config h
theorem State.mirror_of_base {s t : State} (h : t.base = s.base) : t.mirror = s.mirror := congrArg Base.mirror h
theorem State.route_of_base {s t : State} (h : t.base = s.base) : t.route = s.route := congrArg Base.route h
theorem State.inhibit_of_base {s t : State} (h : t.base = s.base) : t.inhibit = s.inhibit := congrArg Base.inhibit h
theorem State.timestamp_of_base {s t : State} (h : t.base = s.base) : t.timestamp = s.timestamp :=
  congrArg Base.timestamp h

@[simp] theorem State.modLane_base (L : Lane) (f : LaneUnit → LaneUnit) : (s.modLane L f).base = s.base := by simp [State.base]
@[simp] theorem State.modPort_base (p : Port) (f : PortUnit → PortUnit) : (s.modPort p f).base = s.base := by simp [State.base]
@[simp] theorem State.modSeq_base (L : Lane) (f : Sequencer → Sequencer) : (s.modSeq L f).base = s.base := by simp [State.base]
@[simp] theorem State.modQueue_base (L : Lane) (f : LaneQueue → LaneQueue) : (s.modQueue L f).base = s.base := by simp [State.base]
@[simp] theorem State.modGov_base (L : Lane) (f : Governor → Governor) : (s.modGov L f).base = s.base := by simp [State.base]
@[simp] theorem State.modGen_base (L : Lane) (f : Generator → Generator) : (s.modGen L f).base = s.base := by simp [State.base]
@[simp] theorem State.modMon_base (L : Lane) (f : FlowMonitor → FlowMonitor) : (s.modMon L f).base = s.base := by simp [State.base]
@[simp] theorem State.modFilter_base (L : Lane) (f : FlowFilter → FlowFilter) : (s.modFilter L f).base = s.base := by simp [State.base]
@[simp] theorem State.modArbiter_base (f : Arbiter → Arbiter) : (s.modArbiter f).base = s.base := by simp [State.base]
@[simp] theorem State.modMonitor_base (f : Monitor → Monitor) : (s.modMonitor f).base = s.base := by simp [State.base]
@[simp] theorem State.modEvents_base (p : Port) (f : EventUnit → EventUnit) : (s.modEvents p f).base = s.base := by simp [State.base]
@[simp] theorem State.countLane_base (L : Lane) (f : LaneCounters → LaneCounters) :
    (s.countLane L f).base = s.base := by simp [State.base]
@[simp] theorem State.countPort_base (p : Port) (f : PortCounters → PortCounters) :
    (s.countPort p f).base = s.base := by simp [State.base]
@[simp] theorem State.countPump_base (f : PumpCounters → PumpCounters) : (s.countPump f).base = s.base := by simp [State.base]
@[simp] theorem State.modTx_base (l : Link) (f : List (List Byte) → List (List Byte)) :
    (s.modTx l f).base = s.base := by simp [State.base]
@[simp] theorem State.send_base (l : Link) (kind : Nat) (payload : List Byte) :
    (s.send l kind payload).base = s.base := by
  simp [State.send]
@[simp] theorem State.reply_base (p : Port) (kind : Nat) (result : Result) (body : List Byte) :
    (s.reply p kind result body).base = s.base := by
  unfold State.reply; split <;> simp
@[simp] theorem State.refuse_base (p : Port) (kind : Nat) (result : Result) :
    (s.refuse p kind result).base = s.base := by
  simp [State.refuse]
@[simp] theorem State.raiseBit_base (p : Port) (n : Nat) : (s.raiseBit p n).base = s.base := by
  simp [State.raiseBit]
@[simp] theorem State.raiseCell_base (e : CellEvent) : (s.raiseCell e).base = s.base := by
  simp [State.raiseCell]
@[simp] theorem State.raiseHead_base (L : Lane) (e : HeadEvent) : (s.raiseHead L e).base = s.base := by
  unfold State.raiseHead; split <;> simp
@[simp] theorem State.enqueue_base (L : Lane) (e : Entry) : (s.enqueue L e).base = s.base := by
  simp [State.enqueue]
@[simp] theorem State.replaceTail_base (L : Lane) (e : Entry) : (s.replaceTail L e).base = s.base := by
  simp [State.replaceTail]
@[simp] theorem State.dequeue_base (L : Lane) : (s.dequeue L).base = s.base := by
  unfold State.dequeue; split <;> simp
@[simp] theorem State.emptyQueue_base (L : Lane) : (s.emptyQueue L).base = s.base := by
  simp [State.emptyQueue]
@[simp] theorem State.writeRecord_base (L : Lane) (r : Record) : (s.writeRecord L r).base = s.base := by
  unfold State.writeRecord; dsimp only; (repeat' split) <;> simp
@[simp] theorem State.recordReleased_base (L : Lane) (outcome : RecordEnd) :
    (s.recordReleased L outcome).base = s.base := by
  unfold State.recordReleased; split <;> simp
@[simp] theorem State.takeComplRead_base (L : Lane) (n : Nat) : (s.takeComplRead L n).base = s.base := by
  unfold State.takeComplRead; (repeat' split) <;> simp
@[simp] theorem State.emitStep_base (L : Lane) : (s.emitStep L).base = s.base := by
  unfold State.emitStep; split <;> simp
@[simp] theorem State.beginSlot_base (L : Lane) : (s.beginSlot L).base = s.base := by
  unfold State.beginSlot; dsimp only; split <;> simp
@[simp] theorem State.startUnit_base (n : Nat) (L : Lane) : (s.startUnit n L).base = s.base := by
  unfold State.startUnit; split <;> simp
@[simp] theorem State.stopUnit_base (L : Lane) : (s.stopUnit L).base = s.base := by
  unfold State.stopUnit; split <;> simp
@[simp] theorem State.meterStart_base (L : Lane) (n : Nat) : (s.meterStart L n).base = s.base := by
  unfold State.meterStart State.onMetering; (repeat' split) <;> simp
@[simp] theorem State.meterLevel_base (L : Lane) (n : Nat) : (s.meterLevel L n).base = s.base := by
  unfold State.meterLevel State.onMetering; (repeat' split) <;> simp
@[simp] theorem State.meterStop_base (L : Lane) : (s.meterStop L).base = s.base := by
  unfold State.meterStop State.onMetering; (repeat' split) <;> simp
@[simp] theorem State.advanceSlot_base (L : Lane) : (s.advanceSlot L).base = s.base := by
  simp [State.advanceSlot]
@[simp] theorem State.slotExpiry_base (L : Lane) : (s.slotExpiry L).base = s.base := by
  unfold State.slotExpiry State.onMetering; dsimp only; (repeat' split) <;> simp
@[simp] theorem State.acceptEdge_base (L : Lane) : (s.acceptEdge L).base = s.base := by
  unfold State.acceptEdge; dsimp only; split <;> simp
@[simp] theorem State.filterExpiry_base (L : Lane) : (s.filterExpiry L).base = s.base := by
  unfold State.filterExpiry; split <;> simp
@[simp] theorem State.filterChange_base (L : Lane) : (s.filterChange L).base = s.base := by
  unfold State.filterChange; dsimp only; (repeat' split) <;> simp
@[simp] theorem State.judgeLock_base : (s.judgeLock).base = s.base := by
  unfold State.judgeLock; (repeat' split) <;> simp
@[simp] theorem State.setTarget_base (t : Nat) : (s.setTarget t).base = s.base := by
  unfold State.setTarget; split <;> simp
@[simp] theorem State.rampTick_base : (s.rampTick).base = s.base := by
  simp [State.rampTick]
@[simp] theorem State.raiseAll_base (head : HeadEvent) (cell : CellEvent) : (s.raiseAll head cell).base = s.base := by
  simp [State.raiseAll]
@[simp] theorem State.judgeRipple_base (r : Nat) : (s.judgeRipple r).base = s.base := by
  unfold State.judgeRipple; (repeat' split) <;> simp
@[simp] theorem State.joinWindow_base (p : Nat) : (s.joinWindow p).base = s.base := by
  unfold State.joinWindow; dsimp only; split <;> simp
@[simp] theorem State.takeSample_base (pressure : Nat) : (s.takeSample pressure).base = s.base := by
  simp [State.takeSample]
@[simp] theorem State.monitorLost_base (reason : LossReason) : (s.monitorLost reason).base = s.base := by
  simp [State.monitorLost]
@[simp] theorem State.noticeRelease_base (L : Lane) (e : Entry) : (s.noticeRelease L e).base = s.base := by
  simp [State.noticeRelease]
@[simp] theorem State.noticeRepierce_base (L : Lane) (segId : Nat) : (s.noticeRepierce L segId).base = s.base := by
  simp [State.noticeRepierce]
@[simp] theorem State.noticePierceDone_base (L : Lane) (segId : Nat) : (s.noticePierceDone L segId).base = s.base := by
  simp [State.noticePierceDone]
@[simp] theorem State.noticeOverride_base (L : Lane) (o : Nat) : (s.noticeOverride L o).base = s.base := by
  simp [State.noticeOverride]
@[simp] theorem State.endReleased_base (L : Lane) : (s.endReleased L).base = s.base := by
  simp [State.endReleased]
@[simp] theorem State.enterReady_base (L : Lane) : (s.enterReady L).base = s.base := by
  simp [State.enterReady]
@[simp] theorem State.giveBack_base (L : Lane) : (s.giveBack L).base = s.base := by
  simp [State.giveBack]
@[simp] theorem State.removeEntry_base (L : Lane) : (s.removeEntry L).base = s.base := by
  simp [State.removeEntry]
@[simp] theorem State.setWait_base (L : Lane) (w : WaitReason) : (s.setWait L w).base = s.base := by
  simp [State.setWait]
@[simp] theorem State.answerNext_base (L : Lane) : (s.answerNext L).base = s.base := by
  simp [State.answerNext]
@[simp] theorem State.clearRepierce_base (L : Lane) : (s.clearRepierce L).base = s.base := by
  simp [State.clearRepierce]
@[simp] theorem State.askPierce_base (L : Lane) (kind : PierceKind) : (s.askPierce L kind).base = s.base := by
  unfold State.askPierce; split <;> simp
@[simp] theorem State.releaseHead_base (L : Lane) (e : Entry) : (s.releaseHead L e).base = s.base := by
  simp [State.releaseHead]
@[simp] theorem State.releaseTraverse_base (L : Lane) (e : Entry) (told : Bool) :
    (s.releaseTraverse L e told).base = s.base := by
  unfold State.releaseTraverse; split <;> simp
@[simp] theorem State.releaseCut_base (L : Lane) (e : Entry) (told : Bool) : (s.releaseCut L e told).base = s.base := by
  unfold State.releaseCut; split <;> simp
@[simp] theorem State.attemptReady_base (L : Lane) (told : Bool) : (s.attemptReady L told).base = s.base := by
  unfold State.attemptReady; (repeat' split) <;> simp
@[simp] theorem State.attemptOpenIdle_base (L : Lane) (told : Bool) : (s.attemptOpenIdle L told).base = s.base := by
  unfold State.attemptOpenIdle; (repeat' split) <;> simp
@[simp] theorem State.attempt_base (L : Lane) (told : Bool) : (s.attempt L told).base = s.base := by
  unfold State.attempt; (repeat' split) <;> simp
@[simp] theorem State.enterOpenIdle_base (L : Lane) : (s.enterOpenIdle L).base = s.base := by
  simp [State.enterOpenIdle]
@[simp] theorem State.endDwell_base (L : Lane) : (s.endDwell L).base = s.base := by
  unfold State.endDwell; dsimp only; split <;> simp
@[simp] theorem State.enterDwell_base (L : Lane) : (s.enterDwell L).base = s.base := by
  unfold State.enterDwell; dsimp only; split <;> simp
@[simp] theorem State.enterOpen_base (L : Lane) : (s.enterOpen L).base = s.base := by
  unfold State.enterOpen; split <;> simp
@[simp] theorem State.enterRamp_base (L : Lane) : (s.enterRamp L).base = s.base := by
  unfold State.enterRamp; dsimp only; split <;> simp
@[simp] theorem State.takeGrant_base (L : Lane) (kind : PierceKind) (told : Bool) :
    (s.takeGrant L kind told).base = s.base := by
  unfold State.takeGrant; (repeat' split) <;> simp
@[simp] theorem State.enterFault_base (L : Lane) (cause : FaultCause) : (s.enterFault L cause).base = s.base := by
  simp [State.enterFault]
@[simp] theorem State.faultLane_base (L : Lane) (cause : FaultCause) : (s.faultLane L cause).base = s.base := by
  unfold State.faultLane; split <;> simp
@[simp] theorem State.faultBoth_base (cause : FaultCause) : (s.faultBoth cause).base = s.base := by
  simp [State.faultBoth]
@[simp] theorem State.abortLane_base (L : Lane) : (s.abortLane L).base = s.base := by
  simp [State.abortLane]
@[simp] theorem State.endPurge_base (L : Lane) : (s.endPurge L).base = s.base := by
  simp [State.endPurge]
@[simp] theorem State.retarget_base : (s.retarget).base = s.base := by
  simp [State.retarget]
@[simp] theorem State.notifyPeer_base (e : PierceEntry) (behind : List PierceEntry) :
    (s.notifyPeer e behind).base = s.base := by
  unfold State.notifyPeer; split <;> simp
@[simp] theorem State.grant_base (e : PierceEntry) (behind : List PierceEntry) (told : Bool) :
    (s.grant e behind told).base = s.base := by
  simp [State.grant]
theorem State.arbitrateFor_base (told : Option Lane) (rounds : Nat) (s : State) :
    (s.arbitrateFor told rounds).base = s.base := by
  induction rounds generalizing s with
  | zero => simp [State.arbitrateFor]
  | succ n ih =>
    unfold State.arbitrateFor
    (repeat' split) <;> simp [ih]

@[simp] theorem State.arbitrate_base : (s.arbitrate).base = s.base := by
  simp [State.arbitrate, State.arbitrateFor_base]
@[simp] theorem State.countValve_base (L : Lane) : (s.countValve L).base = s.base := by
  unfold State.countValve; split <;> simp
@[simp] theorem State.countTick_base : (s.countTick).base = s.base := by
  unfold State.countTick
  split
  · exact (State.countValve_base (s.countValve .A) .B).trans (State.countValve_base s .A)
  · rfl
@[simp] theorem State.closeTick_base : (s.closeTick).base = s.base := by
  unfold State.closeTick; split <;> simp
@[simp] theorem State.conclude_base : (s.conclude).base = s.base := by simp [State.conclude]
@[simp] theorem State.pierceWaitExpiry_base (L : Lane) : (s.pierceWaitExpiry L).base = s.base := by
  unfold State.pierceWaitExpiry; split <;> simp
@[simp] theorem State.openJob_base (L : Lane) (recipe : Option Nat) : (s.openJob L recipe).base = s.base := by
  simp [State.openJob]
@[simp] theorem State.takeJobOpen_base (L : Lane) (material thickness : Nat) :
    (s.takeJobOpen L material thickness).base = s.base := by
  unfold State.takeJobOpen; dsimp only; (repeat' split) <;> simp
@[simp] theorem State.closeJob_base (L : Lane) : (s.closeJob L).base = s.base := by
  simp [State.closeJob]
@[simp] theorem State.takeJobClose_base (L : Lane) : (s.takeJobClose L).base = s.base := by
  unfold State.takeJobClose; (repeat' split) <;> simp
@[simp] theorem State.storePost_base (L : Lane) (segId : Nat) (seg : Segment) (fSeg : Nat) :
    (s.storePost L segId seg fSeg).base = s.base := by
  unfold State.storePost; split <;> simp
@[simp] theorem State.acceptPost_base (L : Lane) (segId : Nat) (seg : Segment) (fSeg : Nat) :
    (s.acceptPost L segId seg fSeg).base = s.base := by
  unfold State.acceptPost; (repeat' split) <;> simp
@[simp] theorem State.takePost_base (L : Lane) (segId : Nat) (body : PostBody) :
    (s.takePost L segId body).base = s.base := by
  unfold State.takePost; dsimp only; (repeat' split) <;> simp
@[simp] theorem State.runNext_base (L : Lane) : (s.runNext L).base = s.base := by
  unfold State.runNext; (repeat' split) <;> simp [State.arbitrateFor_base]
@[simp] theorem State.takeNext_base (L : Lane) : (s.takeNext L).base = s.base := by
  unfold State.takeNext; (repeat' split) <;> simp
@[simp] theorem State.finish_base (L : Lane) (e : Entry) : (s.finish L e).base = s.base := by
  unfold State.finish; (repeat' split) <;> simp
@[simp] theorem State.takeDone_base (L : Lane) (segId : Nat) : (s.takeDone L segId).base = s.base := by
  unfold State.takeDone; (repeat' split) <;> simp
@[simp] theorem State.resumeLane_base (L : Lane) : (s.resumeLane L).base = s.base := by
  simp [State.resumeLane]
@[simp] theorem State.takeResume_base (L : Lane) : (s.takeResume L).base = s.base := by
  unfold State.takeResume; (repeat' split) <;> simp
@[simp] theorem State.takeAbort_base (source : AbortSource) : (s.takeAbort source).base = s.base := by
  unfold State.takeAbort; (repeat' split) <;> simp
@[simp] theorem State.lockTimeoutExpiry_base (L : Lane) : (s.lockTimeoutExpiry L).base = s.base := by
  unfold State.lockTimeoutExpiry; split <;> simp
@[simp] theorem State.leadExpiry_base (L : Lane) : (s.leadExpiry L).base = s.base := by
  unfold State.leadExpiry; split <;> simp
@[simp] theorem State.dwellExpiry_base (L : Lane) : (s.dwellExpiry L).base = s.base := by
  unfold State.dwellExpiry; split <;> simp
@[simp] theorem State.stallExpiry_base (L : Lane) : (s.stallExpiry L).base = s.base := by
  unfold State.stallExpiry; split <;> simp
@[simp] theorem State.purgeExpiry_base (L : Lane) : (s.purgeExpiry L).base = s.base := by
  unfold State.purgeExpiry; split <;> simp
@[simp] theorem State.settleExpiry_base : (s.settleExpiry).base = s.base := by
  unfold State.settleExpiry; dsimp only; (repeat' split) <;> simp
@[simp] theorem State.assertLoss_base (L : Lane) : (s.assertLoss L).base = s.base := by
  unfold State.assertLoss; split <;> simp
@[simp] theorem State.windowExpiry_base (L : Lane) : (s.windowExpiry L).base = s.base := by
  unfold State.windowExpiry; dsimp only; (repeat' split) <;> simp
@[simp] theorem State.graceExpiry_base (L : Lane) : (s.graceExpiry L).base = s.base := by
  unfold State.graceExpiry; split <;> simp
@[simp] theorem State.beginStarving_base (L : Lane) : (s.beginStarving L).base = s.base := by
  simp [State.beginStarving]
@[simp] theorem State.recover_base (L : Lane) (o : Nat) : (s.recover L o).base = s.base := by
  simp [State.recover]
@[simp] theorem State.evaluateLane_base (L : Lane) : (s.evaluateLane L).base = s.base := by
  unfold State.evaluateLane; dsimp only; (repeat' split) <;> simp
@[simp] theorem State.starvationExpiry_base (L : Lane) : (s.starvationExpiry L).base = s.base := by
  unfold State.starvationExpiry; split <;> simp
@[simp] theorem State.declareLost_base (reason : LossReason) : (s.declareLost reason).base = s.base := by
  unfold State.declareLost; split <;> simp
@[simp] theorem State.validSample_base (pressure : Nat) : (s.validSample pressure).base = s.base := by
  unfold State.validSample; split <;> simp
@[simp] theorem State.takeFeedback_base (pressure code : Nat) : (s.takeFeedback pressure code).base = s.base := by
  unfold State.takeFeedback; split <;> simp
@[simp] theorem State.lossExpiry_base : (s.lossExpiry).base = s.base := by
  unfold State.lossExpiry; split <;> simp
@[simp] theorem State.completeWindow_base (pressure : Nat) : (s.completeWindow pressure).base = s.base := by
  unfold State.completeWindow; split <;> simp
@[simp] theorem State.acceptFrame_base (p : Port) (kind : Byte) (payload : List Byte) :
    (s.acceptFrame p kind payload).base = s.base := by
  simp [State.acceptFrame]
@[simp] theorem State.frameSent_base (l : Link) : (s.frameSent l).base = s.base := by
  simp [State.frameSent]
@[simp] theorem State.refuseFrame_base (p : Port) (kind : Byte) (payload : List Byte) :
    (s.refuseFrame p kind payload).base = s.base := by
  unfold State.refuseFrame; split <;> simp
@[simp] theorem State.takeClear_base (p : Port) (events : BitVec 32) : (s.takeClear p events).base = s.base := by
  unfold State.takeClear; split <;> simp
@[simp] theorem State.takeMask_base (p : Port) (events : BitVec 32) : (s.takeMask p events).base = s.base := by
  unfold State.takeMask; split <;> simp
@[simp] theorem State.clearGroup_base (group : Nat) : (s.clearGroup group).base = s.base := by
  unfold State.clearGroup; split <;> simp
@[simp] theorem State.takeCounterRead_base (p : Port) (group flag : Nat) :
    (s.takeCounterRead p group flag).base = s.base := by
  unfold State.takeCounterRead; dsimp only; (repeat' split) <;> simp [State.clearGroup_base]
@[simp] theorem State.refuseWrite_base (result : Result) : (s.refuseWrite result).base = s.base := by
  simp [State.refuseWrite]
@[simp] theorem State.moveFifo_base (L : Lane) (before after : Region) : (s.moveFifo L before after).base = s.base := by
  unfold State.moveFifo; dsimp only; (repeat' split) <;> simp
@[simp] theorem State.answerRead_base (item index : Nat) (widths values : List Nat) :
    (s.answerRead item index widths values).base = s.base := by
  simp [State.answerRead]
@[simp] theorem State.refuseRead_base : (s.refuseRead).base = s.base := by
  simp [State.refuseRead]
@[simp] theorem State.readRecipe_base (index : Nat) : (s.readRecipe index).base = s.base := by
  unfold State.readRecipe; split <;> simp
@[simp] theorem State.readSelection_base (item : SelectionItem) (index : Nat) :
    (s.readSelection item index).base = s.base := by
  unfold State.readSelection; (repeat' split) <;> simp
@[simp] theorem State.readFactorTable_base (item : FactorItem) (index : Nat) :
    (s.readFactorTable item index).base = s.base := by
  unfold State.readFactorTable; (repeat' split) <;> simp
@[simp] theorem State.readPartition_base (index : Nat) : (s.readPartition index).base = s.base := by
  unfold State.readPartition; split <;> simp
@[simp] theorem State.readTiming_base (index : Nat) : (s.readTiming index).base = s.base := by
  unfold State.readTiming; split <;> simp
end Sys2Proof.Machine
end

