-- ==== Sys2Proof/Laws/Inside.lean ====
section
/-! SUPPORT. The lanes, the arbiter and the monitor act alike in states that differ only in the ports, the transmit orders
and the pump counters: what a reply or an event puts there changes nothing of what follows. -/

namespace Sys2Proof.Machine

/-- Two states that differ at most in the ports, the pump link's transmit order and the pump counters. -/
structure State.Alike (s t : State) : Prop where
  base : s.base = t.base
  lane : ∀ L, s.lane L = t.lane L
  arbiter : s.arbiter = t.arbiter
  monitor : s.monitor = t.monitor
  valveDue : s.valveDue = t.valveDue

namespace State.Alike

variable {s t u : State}

theorem refl (s : State) : s.Alike s := ⟨Eq.refl _, fun _ => Eq.refl _, Eq.refl _, Eq.refl _, Eq.refl _⟩
theorem symm (h : s.Alike t) : t.Alike s := 
  ⟨h.base.symm, fun L => (h.lane L).symm, h.arbiter.symm, h.monitor.symm, h.valveDue.symm⟩
theorem trans (h : s.Alike t) (k : t.Alike u) : s.Alike u :=
  ⟨h.base.trans k.base, fun L => (h.lane L).trans (k.lane L), h.arbiter.trans k.arbiter, h.monitor.trans k.monitor,
    h.valveDue.trans k.valveDue⟩

theorem config (h : s.Alike t) : s.config = t.config := State.config_of_base h.base
theorem mirror (h : s.Alike t) : s.mirror = t.mirror := State.mirror_of_base h.base
theorem route (h : s.Alike t) : s.route = t.route := State.route_of_base h.base
theorem inhibit (h : s.Alike t) : s.inhibit = t.inhibit := State.inhibit_of_base h.base
theorem timestamp (h : s.Alike t) : s.timestamp = t.timestamp := State.timestamp_of_base h.base
theorem laneState (h : s.Alike t) (L : Lane) : s.laneState L = t.laneState L := by simp only [State.laneState, h.lane]
theorem queueHead (h : s.Alike t) (L : Lane) : s.queueHead L = t.queueHead L := by simp only [State.queueHead, h.lane]
theorem fill (h : s.Alike t) (L : Lane) : s.fill L = t.fill L := by simp only [State.fill, h.lane]
theorem recipe (h : s.Alike t) (L : Lane) : s.recipe L = t.recipe L := by simp only [State.recipe, h.lane, h.config]
theorem queueRegion (h : s.Alike t) (L : Lane) : s.queueRegion L = t.queueRegion L := by
  cases L <;> simp only [State.queueRegion, h.config]
theorem fifoRegion (h : s.Alike t) (L : Lane) : s.fifoRegion L = t.fifoRegion L := by
  cases L <;> simp only [State.fifoRegion, h.config]
theorem fifoMode (h : s.Alike t) (L : Lane) : s.fifoMode L = t.fifoMode L := by
  cases L <;> simp only [State.fifoMode, h.config]
theorem watermark (h : s.Alike t) (L : Lane) : s.watermark L = t.watermark L := by
  cases L <;> simp only [State.watermark, h.config]
theorem anyJobOpen (h : s.Alike t) : s.anyJobOpen = t.anyJobOpen := by
  simp only [State.anyJobOpen, State.jobOpen, h.laneState]

/-! ## The named updates -/

theorem modLane (h : s.Alike t) (L : Lane) (f : LaneUnit → LaneUnit) : (s.modLane L f).Alike (t.modLane L f) where
  base := by rw [State.modLane_base, State.modLane_base, h.base]
  lane M := by
    have hA : s.laneA = t.laneA := h.lane .A
    have hB : s.laneB = t.laneB := h.lane .B
    cases L <;> cases M <;> simp only [State.modLane, State.lane, hA, hB]
  arbiter := by rw [State.modLane_arbiter, State.modLane_arbiter, h.arbiter]
  monitor := by rw [State.modLane_monitor, State.modLane_monitor, h.monitor]
  valveDue := by rw [State.modLane_valveDue, State.modLane_valveDue, h.valveDue]

theorem modSeq (h : s.Alike t) (L : Lane) (f : Sequencer → Sequencer) : (s.modSeq L f).Alike (t.modSeq L f) :=
  h.modLane L _
theorem modQueue (h : s.Alike t) (L : Lane) (f : LaneQueue → LaneQueue) : (s.modQueue L f).Alike (t.modQueue L f) :=
  h.modLane L _
theorem modGov (h : s.Alike t) (L : Lane) (f : Governor → Governor) : (s.modGov L f).Alike (t.modGov L f) :=
  h.modLane L _
theorem modGen (h : s.Alike t) (L : Lane) (f : Generator → Generator) : (s.modGen L f).Alike (t.modGen L f) :=
  h.modLane L _
theorem modMon (h : s.Alike t) (L : Lane) (f : FlowMonitor → FlowMonitor) : (s.modMon L f).Alike (t.modMon L f) :=
  h.modLane L _
theorem countLane (h : s.Alike t) (L : Lane) (f : LaneCounters → LaneCounters) :
    (s.countLane L f).Alike (t.countLane L f) := h.modLane L _
theorem modArbiter (h : s.Alike t) (f : Arbiter → Arbiter) : (s.modArbiter f).Alike (t.modArbiter f) where
  base := by rw [State.modArbiter_base, State.modArbiter_base, h.base]
  lane L := by
    cases L
    · exact h.lane .A
    · exact h.lane .B
  arbiter := congrArg f h.arbiter
  monitor := h.monitor
  valveDue := h.valveDue
theorem modMonitor (h : s.Alike t) (f : Monitor → Monitor) : (s.modMonitor f).Alike (t.modMonitor f) where
  base := by rw [State.modMonitor_base, State.modMonitor_base, h.base]
  lane L := by
    cases L
    · exact h.lane .A
    · exact h.lane .B
  arbiter := h.arbiter
  monitor := congrArg f h.monitor
  valveDue := h.valveDue

/-! ## What is sent and raised stays outside -/

theorem of_modPort (s : State) (p : Port) (f : PortUnit → PortUnit) : (s.modPort p f).Alike s where
  base := State.modPort_base ..
  lane L := by cases p <;> cases L <;> exact Eq.refl _
  arbiter := by cases p <;> exact Eq.refl _
  monitor := by cases p <;> exact Eq.refl _
  valveDue := by cases p <;> exact Eq.refl _
theorem of_send (s : State) (l : Link) (kind : Nat) (payload : List Byte) : (s.send l kind payload).Alike s := by
  unfold State.send State.modTx
  cases l
  · exact of_modPort ..
  · exact of_modPort ..
  · exact of_modPort ..
  · exact ⟨Eq.refl _, fun L => by cases L <;> exact Eq.refl _, Eq.refl _, Eq.refl _, Eq.refl _⟩
theorem of_reply (s : State) (p : Port) (kind : Nat) (result : Result) (body : List Byte) :
    (s.reply p kind result body).Alike s := by
  unfold State.reply
  dsimp only
  split
  · exact of_send ..
  · exact (of_modPort ..).trans (of_send ..)
theorem of_raiseBit (s : State) (p : Port) (n : Nat) : (s.raiseBit p n).Alike s := by
  unfold State.raiseBit State.modEvents
  exact of_modPort ..
theorem of_raiseHead (s : State) (L : Lane) (e : HeadEvent) : (s.raiseHead L e).Alike s := by
  unfold State.raiseHead
  dsimp only
  split
  · exact (of_raiseBit ..).trans (of_raiseBit ..)
  · exact of_raiseBit ..

theorem send (h : s.Alike t) (l : Link) (kind : Nat) (payload : List Byte) :
    (s.send l kind payload).Alike (t.send l kind payload) := (of_send ..).trans (h.trans (of_send ..).symm)
theorem raiseHead (h : s.Alike t) (L : Lane) (e : HeadEvent) : (s.raiseHead L e).Alike (t.raiseHead L e) :=
  (of_raiseHead ..).trans (h.trans (of_raiseHead ..).symm)

/-! ## The store -/

theorem dequeue (h : s.Alike t) (L : Lane) : (s.dequeue L).Alike (t.dequeue L) := by
  unfold State.dequeue
  dsimp only
  rw [h.watermark, h.fill, h.queueRegion]
  split
  · exact (h.modQueue L _).raiseHead L _
  · exact h.modQueue L _
theorem writeRecord (h : s.Alike t) (L : Lane) (r : Record) : (s.writeRecord L r).Alike (t.writeRecord L r) := by
  unfold State.writeRecord
  dsimp only
  rw [h.lane, h.fifoRegion, h.fifoMode]
  split
  · exact (h.modLane L _).raiseHead L _
  · split
    · exact h.modLane L _
    · split
      · exact (h.countLane L _).raiseHead L _
      · exact ((h.modLane L _).countLane L _).raiseHead L _
theorem releasedRecord (h : s.Alike t) (L : Lane) (outcome : RecordEnd) :
    s.releasedRecord L outcome = t.releasedRecord L outcome := by
  unfold State.releasedRecord
  rw [h.lane, h.timestamp]
theorem recordReleased (h : s.Alike t) (L : Lane) (outcome : RecordEnd) :
    (s.recordReleased L outcome).Alike (t.recordReleased L outcome) := by
  unfold State.recordReleased
  rw [h.releasedRecord]
  split
  · exact h.writeRecord L _
  · exact h

/-! ## Metering -/

theorem onMetering (h : s.Alike t) (L : Lane) (f : State → Lane → State)
    (hf : ∀ {s t : State}, s.Alike t → ∀ L, (f s L).Alike (f t L)) : (s.onMetering L f).Alike (t.onMetering L f) := by
  unfold State.onMetering
  rw [h.mirror]
  cases L <;> dsimp only
  · split
    · exact hf (hf h _) _
    · exact hf h _
  · exact hf h _
theorem emitStep (h : s.Alike t) (L : Lane) : (s.emitStep L).Alike (t.emitStep L) := by
  unfold State.emitStep
  dsimp only
  rw [h.lane]
  split
  · exact h.countLane L _
  · exact (h.countLane L _).modSeq L _
theorem beginSlot (h : s.Alike t) (L : Lane) : (s.beginSlot L).Alike (t.beginSlot L) := by
  unfold State.beginSlot
  dsimp only
  rw [h.lane, h.config]
  split
  · exact (h.modGen L _).emitStep L
  · exact h.modGen L _
theorem startUnit (h : s.Alike t) (n : Nat) (L : Lane) : (s.startUnit n L).Alike (t.startUnit n L) := by
  unfold State.startUnit
  dsimp only
  rw [h.lane, h.config]
  split
  · exact h.modGen L _
  · exact ((h.modGen L _).modMon L _).beginSlot L
theorem stopUnit (h : s.Alike t) (L : Lane) : (s.stopUnit L).Alike (t.stopUnit L) := by
  unfold State.stopUnit
  rw [h.lane]
  split
  · exact (h.modGen L _).modMon L _
  · exact h
theorem meterStart (h : s.Alike t) (L : Lane) (n : Nat) : (s.meterStart L n).Alike (t.meterStart L n) :=
  h.onMetering L _ fun k M => k.startUnit n M
theorem meterLevel (h : s.Alike t) (L : Lane) (n : Nat) : (s.meterLevel L n).Alike (t.meterLevel L n) :=
  h.onMetering L _ fun k M => k.modGen M _
theorem meterStop (h : s.Alike t) (L : Lane) : (s.meterStop L).Alike (t.meterStop L) :=
  h.onMetering L _ fun k M => k.stopUnit M

/-! ## The monitor's lock and the target -/

theorem judgeLock (h : s.Alike t) : s.judgeLock.Alike t.judgeLock := by
  unfold State.judgeLock State.lockConditions
  rw [h.monitor, h.arbiter, h.config]
  split
  · split
    · exact h
    · exact h.modMonitor _
  · exact h.modMonitor _
theorem setTarget (h : s.Alike t) (n : Nat) : (s.setTarget n).Alike (t.setTarget n) := by
  unfold State.setTarget
  rw [h.arbiter]
  split
  · exact h
  · exact ((h.modArbiter _).modMonitor _).judgeLock
theorem retarget (h : s.Alike t) : s.retarget.Alike t.retarget := by
  unfold State.retarget
  have same : s.targetRule = t.targetRule := by
    simp only [State.targetRule, State.jetLanes, h.inhibit, h.monitor, h.anyJobOpen, h.arbiter, h.laneState, h.recipe,
      h.config]
  rw [same]
  exact h.setTarget _

/-! ## The lane -/

theorem noticeRelease (h : s.Alike t) (L : Lane) (e : Entry) : (s.noticeRelease L e).Alike (t.noticeRelease L e) :=
  h.send ..
theorem noticeRepierce (h : s.Alike t) (L : Lane) (n : Nat) : (s.noticeRepierce L n).Alike (t.noticeRepierce L n) :=
  h.send ..
theorem noticePierceDone (h : s.Alike t) (L : Lane) (n : Nat) :
    (s.noticePierceDone L n).Alike (t.noticePierceDone L n) := h.send ..
theorem endReleased (h : s.Alike t) (L : Lane) : (s.endReleased L).Alike (t.endReleased L) :=
  (h.modSeq L _).modGov L _
theorem enterReady (h : s.Alike t) (L : Lane) : (s.enterReady L).Alike (t.enterReady L) :=
  (((h.meterStop L).endReleased L).modSeq L _).modGov L _
theorem giveBack (h : s.Alike t) (L : Lane) : (s.giveBack L).Alike (t.giveBack L) := h.modArbiter _
theorem removeEntry (h : s.Alike t) (L : Lane) : (s.removeEntry L).Alike (t.removeEntry L) := h.modArbiter _
theorem setWait (h : s.Alike t) (L : Lane) (w : WaitReason) : (s.setWait L w).Alike (t.setWait L w) := h.modSeq L _
theorem answerNext (h : s.Alike t) (L : Lane) : (s.answerNext L).Alike (t.answerNext L) := h.modSeq L _
theorem clearRepierce (h : s.Alike t) (L : Lane) : (s.clearRepierce L).Alike (t.clearRepierce L) := h.modSeq L _
theorem askPierce (h : s.Alike t) (L : Lane) (kind : PierceKind) : (s.askPierce L kind).Alike (t.askPierce L kind) := by
  unfold State.askPierce State.hasEntry
  dsimp only
  rw [h.arbiter, h.recipe, h.config]
  split
  · exact h.setWait L _
  · exact (h.modArbiter _).setWait L _
theorem releaseHead (h : s.Alike t) (L : Lane) (e : Entry) : (s.releaseHead L e).Alike (t.releaseHead L e) :=
  ((h.dequeue L).modSeq L _).answerNext L
theorem releaseTraverse (h : s.Alike t) (L : Lane) (e : Entry) (told : Bool) :
    (s.releaseTraverse L e told).Alike (t.releaseTraverse L e told) := by
  unfold State.releaseTraverse
  dsimp only
  split
  · exact (h.releaseHead L e).modSeq L _
  · exact ((h.releaseHead L e).modSeq L _).noticeRelease L e
theorem releaseCut (h : s.Alike t) (L : Lane) (e : Entry) (told : Bool) :
    (s.releaseCut L e told).Alike (t.releaseCut L e told) := by
  unfold State.releaseCut
  dsimp only
  split
  · exact ((h.releaseHead L e).modSeq L _).modGov L _
  · exact (((h.releaseHead L e).modSeq L _).modGov L _).noticeRelease L e
theorem attemptReady (h : s.Alike t) (L : Lane) (told : Bool) : (s.attemptReady L told).Alike (t.attemptReady L told) := by
  unfold State.attemptReady
  rw [h.queueHead, h.lane]
  split
  · exact h.setWait L _
  · split
    · exact (h.clearRepierce L).releaseTraverse L _ told
    · exact (h.clearRepierce L).askPierce L _
    · split
      · exact h.askPierce L _
      · exact h
theorem attemptOpenIdle (h : s.Alike t) (L : Lane) (told : Bool) :
    (s.attemptOpenIdle L told).Alike (t.attemptOpenIdle L told) := by
  unfold State.attemptOpenIdle
  rw [h.queueHead]
  split
  · exact h.setWait L _
  · split
    · split
      · exact h.releaseCut L _ told
      · exact h.setWait L _
    · exact h
theorem attempt (h : s.Alike t) (L : Lane) (told : Bool) : (s.attempt L told).Alike (t.attempt L told) := by
  unfold State.attempt
  rw [h.lane, h.laneState]
  split
  · split
    · exact h.attemptReady L told
    · exact h.attemptOpenIdle L told
    · exact h
  · exact h

/-! ## The pierce -/

theorem dwellLength (h : s.Alike t) (L : Lane) : s.dwellLength L = t.dwellLength L := by
  unfold State.dwellLength
  rw [h.lane, h.recipe]
theorem enterOpenIdle (h : s.Alike t) (L : Lane) : (s.enterOpenIdle L).Alike (t.enterOpenIdle L) := by
  unfold State.enterOpenIdle
  rw [h.config]
  exact h.modSeq L _
theorem endDwell (h : s.Alike t) (L : Lane) : (s.endDwell L).Alike (t.endDwell L) := by
  unfold State.endDwell
  dsimp only
  rw [h.lane, h.recipe]
  have idle := (((((((h.modSeq L fun q => { q with dwellTimer := none }).meterLevel L (t.recipe L).lCut).giveBack
    L).recordReleased L .done).noticePierceDone L (t.lane L).seq.released.segId).endReleased L).enterOpenIdle L)
  split
  · exact (idle.clearRepierce L).attempt L false
  · exact idle.countLane L _
theorem enterDwell (h : s.Alike t) (L : Lane) : (s.enterDwell L).Alike (t.enterDwell L) := by
  unfold State.enterDwell
  dsimp only
  rw [h.recipe]
  have dwelling := (h.meterStart L (t.recipe L).lPierce).modSeq L fun q =>
    { q with state := .piercing .dwell, leadTimer := none }
  rw [dwelling.dwellLength]
  split
  · exact dwelling.endDwell L
  · exact dwelling.modSeq L _
theorem enterOpen (h : s.Alike t) (L : Lane) : (s.enterOpen L).Alike (t.enterOpen L) := by
  unfold State.enterOpen
  dsimp only
  rw [h.recipe]
  split
  · exact ((h.countLane L _).modSeq L _).enterDwell L
  · exact ((h.countLane L _).modSeq L _).modSeq L _
theorem enterRamp (h : s.Alike t) (L : Lane) : (s.enterRamp L).Alike (t.enterRamp L) := by
  unfold State.enterRamp
  dsimp only
  rw [h.config]
  have ramping := h.modSeq L fun q =>
    { q with state := .piercing .ramp, lockTimer := some t.config.timing.lockTimeout, stepCount := 0 }
  rw [ramping.monitor]
  split
  · exact ramping.enterOpen L
  · exact ramping
theorem takeGrant (h : s.Alike t) (L : Lane) (kind : PierceKind) (told : Bool) :
    (s.takeGrant L kind told).Alike (t.takeGrant L kind told) := by
  unfold State.takeGrant
  rw [h.queueHead]
  split
  · split
    · dsimp only
      split
      · exact (h.releaseHead L _).enterRamp L
      · exact ((h.releaseHead L _).noticeRelease L _).enterRamp L
    · exact h
    · exact ((h.modSeq L _).noticeRepierce L _).enterRamp L
  · exact h

/-! ## The arbiter -/

theorem sharedPierce (h : s.Alike t) (L : Lane) (n : Nat) : s.sharedPierce L n = t.sharedPierce L n := by
  unfold State.sharedPierce State.otherFeed
  rw [h.laneState, h.lane, h.recipe, h.config]
theorem peerHolds (h : s.Alike t) (e : PierceEntry) : s.peerHolds e = t.peerHolds e := by
  unfold State.peerHolds
  rw [h.laneState, h.sharedPierce]
theorem notifyPeer (h : s.Alike t) (e : PierceEntry) (behind : List PierceEntry) :
    (s.notifyPeer e behind).Alike (t.notifyPeer e behind) := by
  unfold State.notifyPeer
  split
  · exact h
  · exact (h.modArbiter _).raiseHead _ _
theorem grant (h : s.Alike t) (e : PierceEntry) (behind : List PierceEntry) (told : Bool) :
    (s.grant e behind told).Alike (t.grant e behind told) := ((h.modArbiter _).retarget).takeGrant _ _ _
theorem arbitrateFor (told : Option Lane) (rounds : Nat) :
    ∀ {s t : State}, s.Alike t → (s.arbitrateFor told rounds).Alike (t.arbitrateFor told rounds) := by
  induction rounds with
  | zero => exact fun h => h.retarget
  | succ n ih =>
    intro s t h
    unfold State.arbitrateFor
    rw [h.arbiter]
    split
    · exact h.retarget
    · have free : s.grantFree = t.grantFree := by
        unfold State.grantFree
        rw [h.arbiter, h.inhibit, h.monitor]
      rw [free, h.peerHolds]
      split
      · split
        · exact ih (h.grant _ _ _)
        · exact (h.notifyPeer _ _).retarget
      · exact h.retarget
theorem arbitrate (h : s.Alike t) : s.arbitrate.Alike t.arbitrate := by
  unfold State.arbitrate
  rw [h.arbiter]
  exact arbitrateFor none _ h

theorem valve (h : s.Alike t) (L : Lane) : s.valve L = t.valve L := by
  cases L <;> simp only [State.valve, h.laneState, h.mirror]
theorem countValve (h : s.Alike t) (L : Lane) : (s.countValve L).Alike (t.countValve L) := by
  unfold State.countValve
  rw [h.valve]
  split
  · exact h.countLane L _
  · exact h
theorem countTick (h : s.Alike t) : s.countTick.Alike t.countTick := by
  unfold State.countTick
  rw [h.valveDue]
  split
  · have counted := (h.countValve .A).countValve .B
    exact
      { base := counted.base
        lane := fun L => by cases L <;> first | exact counted.lane .A | exact counted.lane .B
        arbiter := counted.arbiter
        monitor := counted.monitor
        valveDue := Eq.refl _ }
  · exact h
theorem expiring (h : s.Alike t) : s.expiring = t.expiring := by
  have a : s.laneA = t.laneA := h.lane .A
  have b : s.laneB = t.laneB := h.lane .B
  simp only [State.expiring, a, b, h.monitor]
theorem closeTick (h : s.Alike t) : s.closeTick.Alike t.closeTick := by
  unfold State.closeTick
  rw [h.expiring]
  split
  · exact h
  · exact h.countTick
theorem conclude (h : s.Alike t) : s.conclude.Alike t.conclude := h.arbitrate.closeTick

/-- What a taken NEXT does behind its reply does not depend on the reply. -/
theorem runNext (h : s.Alike t) (L : Lane) : (s.runNext L).Alike (t.runNext L) := by
  unfold State.runNext
  dsimp only
  rw [h.laneState]
  split
  · exact (h.modSeq L _).setWait L _
  · have attempted := (h.modSeq L fun q => { q with nextPending := true }).attempt L true
    rw [attempted.arbiter]
    exact (arbitrateFor _ _ attempted).closeTick

end State.Alike

end Sys2Proof.Machine
end

