-- ==== Sys2Proof/Laws/PerInstr.lean ====
section
/-! SUPPORT. What holds of every command as it is written: one lemma for each constructor of `Instr`. -/

namespace Sys2Proof.Laws.Carried

open Sys2Proof.Machine

/-- The frame of a request is one its port takes: its KIND is a code of R174 or R175 that the port knows, so that R172
hands it on. A frame that R172 refuses has a KIND of its own, whatever it is, in one byte; a command that no frame
carries has none. -/
def Statement (i : Instr) : Prop :=
  ∀ (p : Port) (kind : Nat) (payload : List Byte), encodeRequest i = some (p, kind, payload) →
    kind < 256 ∧ ((∀ q k bytes, i ≠ .frameRefused q k bytes) → takesKind p kind = true)

/-- A command with a frame that its port takes. -/
theorem of_frame {i : Instr} {p : Port} {kind : Nat} {payload : List Byte}
    (frame : encodeRequest i = some (p, kind, payload)) (code : kind < 256) (takes : takesKind p kind = true) :
    Statement i := by
  intro q k bytes h
  rw [frame] at h
  obtain ⟨rfl, rfl, rfl⟩ := h
  exact ⟨code, fun _ => takes⟩

/-- A command that no frame carries. -/
theorem of_none {i : Instr} (frame : encodeRequest i = none) : Statement i := by
  intro p kind payload h
  rw [frame] at h
  cases h

theorem jobOpen (lane : Lane) (material thickness : Nat) : Statement (.jobOpen lane material thickness) := by
  cases lane <;> exact of_frame rfl (by decide) (by decide)

theorem jobClose (lane : Lane) : Statement (.jobClose lane) := by
  cases lane <;> exact of_frame rfl (by decide) (by decide)

theorem post (lane : Lane) (segId : Nat) (body : PostBody) : Statement (.post lane segId body) := by
  cases lane <;> exact of_frame rfl (by decide) (by decide)

theorem next (lane : Lane) : Statement (.next lane) := by
  cases lane <;> exact of_frame rfl (by decide) (by decide)

theorem releaseAttempt (lane : Lane) : Statement (.releaseAttempt lane) := of_none rfl

theorem pierceGrant : Statement (.pierceGrant) := of_none rfl

theorem done (lane : Lane) (segId : Nat) : Statement (.done lane segId) := by
  cases lane <;> exact of_frame rfl (by decide) (by decide)

theorem resume (lane : Lane) : Statement (.resume lane) := by
  cases lane <;> exact of_frame rfl (by decide) (by decide)

theorem abort (source : AbortSource) : Statement (.abort source) := by
  rcases source with (_ | _) | _ <;> exact of_frame rfl (by decide) (by decide)

theorem complRead (lane : Lane) (n : Nat) : Statement (.complRead lane n) := by
  cases lane <;> exact of_frame rfl (by decide) (by decide)

theorem status (port : Port) : Statement (.status port) := by
  cases port <;> exact of_frame rfl (by decide) (by decide)

theorem clear (port : Port) (events : BitVec 32) : Statement (.clear port events) := by
  cases port <;> exact of_frame rfl (by decide) (by decide)

theorem mask (port : Port) (events : BitVec 32) : Statement (.mask port events) := by
  cases port <;> exact of_frame rfl (by decide) (by decide)

theorem route (events : BitVec 16) : Statement (.route events) :=
  of_frame rfl (by decide) (by decide)

theorem counterRead (port : Port) (group flag : Nat) : Statement (.counterRead port group flag) := by
  cases port <;> exact of_frame rfl (by decide) (by decide)

theorem counterReadClear (port : Port) (group : Nat) : Statement (.counterReadClear port group) := by
  cases port <;> exact of_frame rfl (by decide) (by decide)

theorem tableWriteRecipe (index : Nat) (image : RecipeImage) : Statement (.tableWriteRecipe index image) :=
  of_frame rfl (by decide) (by decide)

theorem tableWriteElement (index : Nat) (image : ElementImage) : Statement (.tableWriteElement index image) :=
  of_frame rfl (by decide) (by decide)

theorem tableWriteControl (index : Nat) (image : ControlImage) : Statement (.tableWriteControl index image) :=
  of_frame rfl (by decide) (by decide)

theorem tableWriteFactorTable (item : FactorItem) (index : Nat) (values : List Nat) :
    Statement (.tableWriteFactorTable item index values) := by
  cases item <;> exact of_frame rfl (by decide) (by decide)

theorem tableWritePartition (index : Nat) (image : PartitionImage) : Statement (.tableWritePartition index image) :=
  of_frame rfl (by decide) (by decide)

theorem tableWriteTiming (index : Nat) (image : TimingImage) : Statement (.tableWriteTiming index image) :=
  of_frame rfl (by decide) (by decide)

theorem tableReadRecipe (index : Nat) : Statement (.tableReadRecipe index) :=
  of_frame rfl (by decide) (by decide)

theorem tableReadSelection (item : SelectionItem) (index : Nat) : Statement (.tableReadSelection item index) := by
  cases item <;> exact of_frame rfl (by decide) (by decide)

theorem tableReadFactorTable (item : FactorItem) (index : Nat) : Statement (.tableReadFactorTable item index) := by
  cases item <;> exact of_frame rfl (by decide) (by decide)

theorem tableReadPartition (index : Nat) : Statement (.tableReadPartition index) :=
  of_frame rfl (by decide) (by decide)

theorem tableReadTiming (index : Nat) : Statement (.tableReadTiming index) :=
  of_frame rfl (by decide) (by decide)

theorem modeMirrorOn (mode : Nat) : Statement (.modeMirrorOn mode) :=
  of_frame rfl (by decide) (by decide)

theorem modeMirrorOff : Statement (.modeMirrorOff) :=
  of_frame rfl (by decide) (by decide)

theorem reset : Statement (.reset) :=
  of_frame rfl (by decide) (by decide)

theorem frameRefused (port : Port) (kind : Byte) (payload : List Byte) :
    Statement (.frameRefused port kind payload) := by
  intro q k bytes h
  obtain ⟨rfl, rfl, rfl⟩ := h
  exact ⟨kind.isLt, fun other => absurd rfl (other port kind payload)⟩

theorem frameCrcDiscard (link : Link) : Statement (.frameCrcDiscard link) := of_none rfl

theorem gapTimerExpiry (link : Link) : Statement (.gapTimerExpiry link) := of_none rfl

theorem feedback (pressure status : Nat) : Statement (.feedback pressure status) := of_none rfl

theorem lossTimerExpiry : Statement (.lossTimerExpiry) := of_none rfl

theorem settleTimerExpiry : Statement (.settleTimerExpiry) := of_none rfl

theorem rippleWindowComplete (pressure : Nat) : Statement (.rippleWindowComplete pressure) := of_none rfl

theorem timebaseTick : Statement (.timebaseTick) := of_none rfl

theorem timestampWrap : Statement (.timestampWrap) := of_none rfl

theorem governorEvaluation : Statement (.governorEvaluation) := of_none rfl

theorem starvationTimerExpiry (lane : Lane) : Statement (.starvationTimerExpiry lane) := of_none rfl

theorem lockTimeoutExpiry (lane : Lane) : Statement (.lockTimeoutExpiry lane) := of_none rfl

theorem abrasiveLeadExpiry (lane : Lane) : Statement (.abrasiveLeadExpiry lane) := of_none rfl

theorem dwellExpiry (lane : Lane) : Statement (.dwellExpiry lane) := of_none rfl

theorem stallExpiry (lane : Lane) : Statement (.stallExpiry lane) := of_none rfl

theorem purgeExpiry (lane : Lane) : Statement (.purgeExpiry lane) := of_none rfl

theorem pierceWaitTimerExpiry (lane : Lane) : Statement (.pierceWaitTimerExpiry lane) := of_none rfl

theorem slotTimerExpiry (lane : Lane) : Statement (.slotTimerExpiry lane) := of_none rfl

theorem flowInputChange (lane : Lane) (level : Level) : Statement (.flowInputChange lane level) := of_none rfl

theorem flowFilterExpiry (lane : Lane) : Statement (.flowFilterExpiry lane) := of_none rfl

theorem windowTimerExpiry (lane : Lane) : Statement (.windowTimerExpiry lane) := of_none rfl

theorem graceTimerExpiry (lane : Lane) : Statement (.graceTimerExpiry lane) := of_none rfl

theorem inhibitAssert : Statement (.inhibitAssert) := of_none rfl

theorem inhibitRelease : Statement (.inhibitRelease) := of_none rfl

theorem resetInputAssert : Statement (.resetInputAssert) := of_none rfl

theorem powerOn : Statement (.powerOn) := of_none rfl

theorem linkByteReceived (link : Link) (byte : Byte) : Statement (.linkByteReceived link byte) := of_none rfl

theorem frameSent (link : Link) : Statement (.frameSent link) := of_none rfl

end Sys2Proof.Laws.Carried
end

