-- ==== Sys2Proof/Laws/Requests.lean ====
section
/-! SUPPORT. What the handing on of a request and its reply do, said once. -/

namespace Sys2Proof.Machine

theorem State.hands_live {s : State} {p : Port} {c : Instr} (h : s.hands p c = true) : s.resetInput = false := by
  simp [State.hands] at h
  exact h.1

/-- A request that its port hands on next is taken on the state it left behind (R172). -/
theorem State.handOn_of_hands {s : State} {p : Port} {c : Instr} (h : s.hands p c = true) (take : State → State) :
    s.handOn p c take = take (s.handed p) := by
  have live := State.hands_live h
  simp only [State.hands, Bool.and_eq_true, Bool.or_eq_true] at h
  obtain ⟨-, h⟩ := h
  unfold State.handOn State.unlessHeld
  simp only [live]
  cases hl : (s.port p).line with
  | nil =>
    have : s.handed p = s := by
      unfold State.handed
      cases p <;> simp only [State.port] at hl <;> simp [State.modPort, hl] <;> congr <;> rw [← hl]
    simp [this]
  | cons first rest =>
    rw [hl] at h
    have hc : first = c := by simpa using h
    simp only [hc, if_true]
    simp only [Bool.false_eq_true, if_false]
    congr 1
    unfold State.handed
    cases p <;> simp only [State.port] at hl <;> simp [State.modPort, hl]

/-- A reply behind the handing on of its request (R173). -/
theorem State.reply_handed (s : State) (p : Port) (kind : Nat) (result : Result) (body : List Byte) :
    (s.handed p).reply p kind result body = s.answeredAt p kind result body := by
  cases p <;> by_cases h : result = .ok <;>
    simp [State.handed, State.reply, State.answeredAt, PortUnit.answered, State.send, State.modTx, State.modPort,
      State.countPort, Port.link, h, replyPayload, PortCounters.addRefused, countUp]

theorem State.refuse_handed (s : State) (p : Port) (kind : Nat) (result : Result) :
    (s.handed p).refuse p kind result = s.answeredAt p kind result [] := State.reply_handed ..

/-- A request behind others of its port waits its turn (R172). -/
theorem State.handOn_behind {s : State} {p : Port} {c first : Instr} {rest : List Instr} (live : s.resetInput = false)
    (line : (s.port p).line = first :: rest) (other : first ≠ c) (take : State → State) :
    s.handOn p c take = if c ∈ rest then s else s.modPort p fun u => { u with line := first :: rest ++ [c] } := by
  unfold State.handOn State.unlessHeld
  rw [if_neg (by simp [live])]
  dsimp only
  rw [line]
  dsimp only
  rw [if_neg other]
  split
  · rfl
  · cases p <;> simp only [State.modPort, State.port] at * <;> simp [line]

@[simp] theorem State.handed_valveDue (s : State) (p : Port) : (s.handed p).valveDue = s.valveDue := by cases p <;> rfl
@[simp] theorem State.handed_lane (s : State) (p : Port) (L : Lane) : (s.handed p).lane L = s.lane L := by
  cases p <;> cases L <;> rfl
@[simp] theorem State.handed_laneState (s : State) (p : Port) (L : Lane) :
    (s.handed p).laneState L = s.laneState L := by cases p <;> cases L <;> rfl
@[simp] theorem State.handed_config (s : State) (p : Port) : (s.handed p).config = s.config := by cases p <;> rfl
@[simp] theorem State.handed_arbiter (s : State) (p : Port) : (s.handed p).arbiter = s.arbiter := by cases p <;> rfl
@[simp] theorem State.handed_monitor (s : State) (p : Port) : (s.handed p).monitor = s.monitor := by cases p <;> rfl
@[simp] theorem State.handed_mirror (s : State) (p : Port) : (s.handed p).mirror = s.mirror := by cases p <;> rfl
@[simp] theorem State.handed_inhibit (s : State) (p : Port) : (s.handed p).inhibit = s.inhibit := by cases p <;> rfl
@[simp] theorem State.handed_timestamp (s : State) (p : Port) : (s.handed p).timestamp = s.timestamp := by
  cases p <;> rfl
@[simp] theorem State.handed_freeUsed (s : State) (p : Port) : (s.handed p).freeUsed = s.freeUsed := by
  cases p <;> rfl
@[simp] theorem State.handed_pending (s : State) (p : Port) : (s.handed p).pending = s.pending := by cases p <;> rfl
@[simp] theorem State.handed_jobOpen (s : State) (p : Port) (L : Lane) : (s.handed p).jobOpen L = s.jobOpen L := by
  cases p <;> cases L <;> rfl
@[simp] theorem State.handed_anyJobOpen (s : State) (p : Port) : (s.handed p).anyJobOpen = s.anyJobOpen := by
  simp [State.anyJobOpen]
@[simp] theorem State.handed_recipe (s : State) (p : Port) (L : Lane) : (s.handed p).recipe L = s.recipe L := by
  simp [State.recipe]
@[simp] theorem State.handed_fill (s : State) (p : Port) (L : Lane) : (s.handed p).fill L = s.fill L := by
  simp [State.fill]
@[simp] theorem State.handed_queueHead (s : State) (p : Port) (L : Lane) :
    (s.handed p).queueHead L = s.queueHead L := by simp [State.queueHead]

@[simp] theorem State.answeredAt_lane (s : State) (p : Port) (k : Nat) (r : Result) (b : List Byte) (L : Lane) :
    (s.answeredAt p k r b).lane L = s.lane L := by cases p <;> cases L <;> rfl
@[simp] theorem State.answeredAt_laneState (s : State) (p : Port) (k : Nat) (r : Result) (b : List Byte) (L : Lane) :
    (s.answeredAt p k r b).laneState L = s.laneState L := by cases p <;> cases L <;> rfl
@[simp] theorem State.answeredAt_config (s : State) (p : Port) (k : Nat) (r : Result) (b : List Byte) :
    (s.answeredAt p k r b).config = s.config := by cases p <;> rfl
@[simp] theorem State.answeredAt_arbiter (s : State) (p : Port) (k : Nat) (r : Result) (b : List Byte) :
    (s.answeredAt p k r b).arbiter = s.arbiter := by cases p <;> rfl
@[simp] theorem State.answeredAt_monitor (s : State) (p : Port) (k : Nat) (r : Result) (b : List Byte) :
    (s.answeredAt p k r b).monitor = s.monitor := by cases p <;> rfl
@[simp] theorem State.answeredAt_mirror (s : State) (p : Port) (k : Nat) (r : Result) (b : List Byte) :
    (s.answeredAt p k r b).mirror = s.mirror := by cases p <;> rfl
@[simp] theorem State.answeredAt_inhibit (s : State) (p : Port) (k : Nat) (r : Result) (b : List Byte) :
    (s.answeredAt p k r b).inhibit = s.inhibit := by cases p <;> rfl
@[simp] theorem State.answeredAt_timestamp (s : State) (p : Port) (k : Nat) (r : Result) (b : List Byte) :
    (s.answeredAt p k r b).timestamp = s.timestamp := by cases p <;> rfl
@[simp] theorem State.answeredAt_pending (s : State) (p : Port) (k : Nat) (r : Result) (b : List Byte) :
    (s.answeredAt p k r b).pending = s.pending := by cases p <;> rfl

end Sys2Proof.Machine
end

