-- ==== Sys2Proof/Laws/Tick.lean ====
section
/-! SUPPORT. What the count of a tick in VALVE_OPEN_MS and the end of an event can do: they touch that count of each lane
and the mark that a tick is to be counted, and nothing else. -/

namespace Sys2Proof.Machine

/-- A lane with one more tick counted in VALVE_OPEN_MS, where `open?` is true. -/
def LaneUnit.countedIf (u : LaneUnit) (open? : Bool) : LaneUnit :=
  { u with
    counters := { u.counters with
      valveOpenMs := if open? then min counterMax (u.counters.valveOpenMs + 1) else u.counters.valveOpenMs } }

variable (s : State)

/-- All that the count of a tick does. -/
theorem State.countTick_eq :
    s.countTick =
      if s.valveDue then
        { s with
          laneA := s.laneA.countedIf (s.valve .A), laneB := s.laneB.countedIf (s.valve .B), valveDue := false }
      else s := by
  unfold State.countTick
  split
  · have b : (s.countValve .A).valve .B = s.valve .B := by
      unfold State.countValve
      split <;> rfl
    unfold State.countValve at b ⊢
    rw [b]
    cases s.valve .A <;> cases s.valve .B <;> rfl
  · rfl

/-- All that the end of an event does beside the arbiter's part. -/
theorem State.closeTick_eq :
    s.closeTick =
      if s.valveDue = true ∧ s.expiring = false then
        { s with
          laneA := s.laneA.countedIf (s.valve .A), laneB := s.laneB.countedIf (s.valve .B), valveDue := false }
      else s := by
  unfold State.closeTick
  rw [State.countTick_eq]
  cases s.expiring <;> cases s.valveDue <;> rfl

/-- An event that ends leaves a tick to count only where an expiry of it that can move a valve is left. -/
theorem State.closeTick_valveDue (h : s.closeTick.valveDue = true) : s.expiring = true := by
  rw [State.closeTick_eq] at h
  cases e : s.expiring
  · cases d : s.valveDue <;> simp [e, d] at h
  · rfl

@[simp] theorem State.closeTick_arbiter : s.closeTick.arbiter = s.arbiter := by rw [State.closeTick_eq]; split <;> rfl
@[simp] theorem State.closeTick_monitor : s.closeTick.monitor = s.monitor := by rw [State.closeTick_eq]; split <;> rfl
@[simp] theorem State.closeTick_portA : s.closeTick.portA = s.portA := by rw [State.closeTick_eq]; split <;> rfl
@[simp] theorem State.closeTick_portB : s.closeTick.portB = s.portB := by rw [State.closeTick_eq]; split <;> rfl
@[simp] theorem State.closeTick_portC : s.closeTick.portC = s.portC := by rw [State.closeTick_eq]; split <;> rfl
@[simp] theorem State.closeTick_pumpTx : s.closeTick.pumpTx = s.pumpTx := by rw [State.closeTick_eq]; split <;> rfl
@[simp] theorem State.closeTick_pumpCounters : s.closeTick.pumpCounters = s.pumpCounters := by
  rw [State.closeTick_eq]; split <;> rfl
@[simp] theorem State.closeTick_seq (L : Lane) : (s.closeTick.lane L).seq = (s.lane L).seq := by
  rw [State.closeTick_eq]; split <;> cases L <;> rfl
@[simp] theorem State.closeTick_queue (L : Lane) : (s.closeTick.lane L).queue = (s.lane L).queue := by
  rw [State.closeTick_eq]; split <;> cases L <;> rfl
@[simp] theorem State.closeTick_fifo (L : Lane) : (s.closeTick.lane L).fifo = (s.lane L).fifo := by
  rw [State.closeTick_eq]; split <;> cases L <;> rfl
@[simp] theorem State.closeTick_gov (L : Lane) : (s.closeTick.lane L).gov = (s.lane L).gov := by
  rw [State.closeTick_eq]; split <;> cases L <;> rfl
@[simp] theorem State.closeTick_gen (L : Lane) : (s.closeTick.lane L).gen = (s.lane L).gen := by
  rw [State.closeTick_eq]; split <;> cases L <;> rfl
@[simp] theorem State.closeTick_mon (L : Lane) : (s.closeTick.lane L).mon = (s.lane L).mon := by
  rw [State.closeTick_eq]; split <;> cases L <;> rfl
@[simp] theorem State.closeTick_filter (L : Lane) : (s.closeTick.lane L).filter = (s.lane L).filter := by
  rw [State.closeTick_eq]; split <;> cases L <;> rfl
@[simp] theorem State.closeTick_laneState (L : Lane) : s.closeTick.laneState L = s.laneState L := by
  simp only [State.laneState, State.closeTick_seq]

end Sys2Proof.Machine
end

