-- ==== Sys2Proof/Tests/Slice0.lean ====
section
/-! SUPPORT. Tests of the model: the worked cases of the manual, the refusals of the well-formedness checks, frames written
out by hand, and, for every statement with hypotheses, a state and operands that meet them. -/

-- One test after another: many tests decided at once would need more threads than the check's memory limit allows.
set_option Elab.async false

namespace Sys2Proof.Tests

open Sys2Proof.Machine

/-! ## Small states -/

/-- The worktop recipe of 2.6. -/
def worked : Recipe := ⟨true, 520, 3800, 1400, 2000, 400, 10, 6, 150, 300, 120, 800, 1000⟩

/-- The same recipe as a TABLE_WRITE carries it. -/
def image : RecipeImage := ⟨1, 520, 3800, 1400, 2000, 400, 10, 6, 150, 300, 120, 800, 1000⟩

/-- The state a command leads to, or the same state where the part stops. -/
def after (c : Instr) (s : State) : State :=
  match exec c s with
  | .next t => t
  | _ => s

/-- Recipe 0 written, and policy USE with it. -/
def written : State :=
  { State.reset with
    config := { State.reset.config with
      recipes := worked :: List.replicate 31 Recipe.powerOn, control := ⟨0, .use, 0⟩ } }

/-- A job open on lane A, its sequencer as `f` makes it. -/
def jobA (f : Sequencer → Sequencer) : State :=
  written.modSeq .A fun q => f { q with state := .ready, recipe := some 0 }

/-- Jobs open on both lanes. -/
def jobs (f g : Sequencer → Sequencer) : State :=
  (jobA f).modSeq .B fun q => g { q with state := .ready, recipe := some 0 }

/-- With these entries in lane A's queue. -/
def holding (entries : List Entry) (s : State) : State :=
  s.modQueue .A fun _ => { entries := entries, put := entries.length, get := 0 }

/-- A straight cut of quality 4 in one direction. -/
def straight (dir : Nat) (off closing : Bool) : Cut := ⟨2500, dir, dir, 4, off, closing⟩

/-- An entry of the queue. -/
def entry (segId : Nat) (seg : Segment) (junction : Junction) : Entry := ⟨segId, seg, 201, 201, junction⟩

/-- A reply as the first frame of a port's transmit order. -/
def replied (p : Port) (kind result : Byte) (body : List Byte) (s : State) : Bool :=
  (s.port p).tx.head? == some (wire 0x80#8 (kind :: result :: body))

/-! ## What the well-formedness checks refuse -/

theorem test_jobOpen_field_too_wide : (Instr.jobOpen .A 65536 10).wellFormed = false := by decide
theorem test_post_segId_too_wide : (Instr.post .A 65536 (.known (.pierce none))).wellFormed = false := by decide
theorem test_traverse_length_too_wide : (Instr.post .A 0 (.known (.traverse 16777216))).wellFormed = false := by decide
theorem test_pierce_dwell_too_wide : (Instr.post .A 0 (.known (.pierce (some 65536)))).wellFormed = false := by decide
theorem test_cut_quality_too_wide :
    (Instr.post .A 0 (.known (.line ⟨1, 0, 0, 256, false, false⟩))).wellFormed = false := by decide
theorem test_arc_radius_too_wide :
    (Instr.post .A 0 (.known (.arc (straight 0 false false) 65536))).wellFormed = false := by decide
theorem test_unknown_kind_is_no_segment : (Instr.post .A 0 (.unknownKind 3)).wellFormed = false := by decide
theorem test_done_segId_too_wide : (Instr.done .B 65536).wellFormed = false := by decide
theorem test_abort_lane_too_wide : (Instr.abort (.cell 256)).wellFormed = false := by decide
theorem test_complRead_count_too_wide : (Instr.complRead .A 256).wellFormed = false := by decide
theorem test_head_mask_too_wide : (Instr.clear .A 0x00010000#32).wellFormed = false := by decide
theorem test_mask_too_wide : (Instr.mask .B 0x00010000#32).wellFormed = false := by decide
theorem test_counterRead_flag_of_clear : (Instr.counterRead .C 0 1).wellFormed = false := by decide
theorem test_counterReadClear_group_too_wide : (Instr.counterReadClear .C 256).wellFormed = false := by decide
theorem test_recipe_write_field_too_wide :
    (Instr.tableWriteRecipe 0 { image with sb := 65536 }).wellFormed = false := by decide
theorem test_element_write_field_too_wide :
    (Instr.tableWriteElement 0 ⟨256, 0, 0, 0, 10, 10, 0, 0⟩).wellFormed = false := by decide
theorem test_control_write_field_too_wide : (Instr.tableWriteControl 0 ⟨0, 0, 256⟩).wellFormed = false := by decide
theorem test_factor_write_short : (Instr.tableWriteFactorTable .dq 0 [1000, 1500, 2200]).wellFormed = false := by decide
theorem test_undefined_item_is_no_table : (Instr.tableReadFactorTable (.undefined 10) 0).wellFormed = false := by decide
theorem test_partition_write_field_too_wide :
    (Instr.tableWritePartition 0 ⟨⟨65536, 2⟩, ⟨2, 2⟩, ⟨4, 1⟩, ⟨5, 1⟩, 0, 0, 0, 0⟩).wellFormed = false := by decide
theorem test_timing_write_field_too_wide :
    (Instr.tableWriteTiming 0 ⟨2000, 3000, 10000, 1000, 10, 20, 150, 200, 300, 150, 10, 1500, 4, 1, 2, 100, 4, 800, 5,
      256⟩).wellFormed = false := by decide
theorem test_table_index_too_wide : (Instr.tableReadRecipe 256).wellFormed = false := by decide
theorem test_mode_off_is_no_mode_on : (Instr.modeMirrorOn 0).wellFormed = false := by decide
theorem test_refused_payload_too_long :
    (Instr.frameRefused .A 0x01#8 (List.replicate 49 0x00#8)).wellFormed = false := by decide
theorem test_feedback_pressure_too_wide : (Instr.feedback 65536 1).wellFormed = false := by decide
theorem test_ripple_pressure_too_wide : (Instr.rippleWindowComplete 65536).wellFormed = false := by decide

/-! ## Frames written out by hand (R170, R175, R176, R188) -/

theorem test_crc_check_value :
    crc16 [0x31#8, 0x32#8, 0x33#8, 0x34#8, 0x35#8, 0x36#8, 0x37#8, 0x38#8, 0x39#8] = 0x29B1#16 := by decide +kernel
theorem test_decode_next : decodeFrame .A 0x04#8 [] = .next .A := by decide +kernel
theorem test_decode_done : decodeFrame .B 0x05#8 [0x01#8, 0x02#8] = .done .B 258 := by decide +kernel
theorem test_decode_line :
    decodeFrame .A 0x03#8 [0x00#8, 0x29#8, 0x02#8, 0x00#8, 0x09#8, 0xC4#8, 0x03#8, 0x84#8, 0x03#8, 0x84#8, 0x04#8, 0x03#8] =
      .post .A 41 (.known (.line (straight 900 true true))) := by decide +kernel
theorem test_decode_unknown_segment_kind :
    decodeFrame .A 0x03#8 [0x00#8, 0x01#8, 0x09#8, 0xFF#8] = .post .A 1 (.unknownKind 9) := by decide +kernel
theorem test_decode_counter_read : decodeFrame .A 0x13#8 [0x02#8, 0x00#8] = .counterRead .A 2 0 := by decide +kernel
theorem test_decode_mode_off : decodeFrame .C 0x22#8 [0x00#8] = .modeMirrorOff := by decide +kernel
theorem test_decode_route : decodeFrame .C 0x23#8 [0x80#8, 0x01#8] = .route 0x8001#16 := by decide +kernel
theorem test_decode_reset : decodeFrame .C 0x24#8 [] = .reset := by decide +kernel
theorem test_decode_undefined_item :
    decodeFrame .C 0x21#8 [0x0B#8, 0x00#8] = .tableReadFactorTable (.undefined 11) 0 := by decide +kernel
theorem test_decode_wrong_port : decodeFrame .C 0x04#8 [] = .frameRefused .C 0x04#8 [] := by decide +kernel
theorem test_decode_wrong_length :
    decodeFrame .A 0x08#8 [] = .frameRefused .A 0x08#8 [] := by decide +kernel

/-! ## The worked cases of the manual -/

/-- The pressure factor of 3800 bar and the ratios of R29. -/
theorem test_pressure_ratios :
    readKp .powerOn 3800 = 936 ∧ pressureRatio .powerOn 1400 3800 = 273 ∧ pressureRatio .powerOn 3420 3800 = 871 ∧
      pressureRatio .powerOn 4200 3800 = 1000 := by decide
/-- The segment feeds of 2.6.2 and 2.6.3. -/
theorem test_segment_feeds :
    segmentFeed .powerOn worked (.line (straight 0 false false)) = 201 ∧
      segmentFeed .powerOn worked (.arc (straight 0 false false) 150) = 135 ∧
      segmentFeed .powerOn worked (.arc (straight 0 false true) 150) = 108 ∧
      segmentFeed .powerOn worked (.arc (straight 0 false false) 12) = 60 ∧
      segmentFeed .powerOn worked (.arc (straight 0 false false) 30) = 70 := by decide
/-- The clamped feed of 2.6.5. -/
theorem test_clamped_feed :
    segmentFeed .powerOn { worked with sb := 6000, pCut := 6200, lCut := 16 }
      (.line { straight 0 false false with quality := 0 }) = 6000 := by decide
/-- The junctions of 2.6.4. -/
theorem test_junctions :
    junctionFeed .powerOn 0 0 201 135 = 135 ∧ junctionFeed .powerOn 900 1800 201 201 = 60 ∧
      junctionFeed .powerOn 3550 85 201 201 = 187 := by decide
/-- The turn angles of R30. -/
theorem test_turn_angles :
    turnAngle 3550 85 = 135 ∧ turnAngle 3500 100 = 200 ∧ turnAngle 450 2250 = 1800 := by decide
/-- The closing arc of 2.6.3 is refused with its feed, 108. -/
theorem test_post_below_floor :
    replied .A 0x03#8 0x0A#8 [0x00#8, 0x2D#8, 0x00#8, 0x6C#8]
      (after (.post .A 45 (.known (.arc (straight 0 false true) 150))) (jobA fun q => { q with postedJet := true })) =
        true := by decide +kernel
/-- The entries of 2.6.6 after POST 41 and POST 42. -/
theorem test_posted_junction_is_finalised :
    let s := holding [⟨40, .pierce none, 0, 0, .final⟩] (jobA fun q => { q with postedJet := true })
    let t := after (.post .A 42 (.known (.arc ⟨2500, 0, 900, 4, false, false⟩ 150)))
      (after (.post .A 41 (.known (.line (straight 0 false false)))) s)
    t.laneA.queue.entries.map (fun e => (e.segId, e.fSeg, e.fJunc, e.junction)) =
      [(40, 0, 0, .final), (41, 201, 135, .final), (42, 135, 135, .provisional)] := by decide +kernel

/-! ## Commands on small states -/

/-- After power-on no job can be opened (R8). -/
theorem test_jobOpen_without_recipe :
    replied .A 0x01#8 0x06#8 [0xFF#8, 0xFF#8] (after (.jobOpen .A 300 200) State.reset) = true := by decide +kernel
theorem test_jobOpen_enters_ready :
    (after (.jobOpen .A 300 200) written).laneA.seq.state = .ready ∧
      (after (.jobOpen .A 300 200) written).arbiter.target = 1000 := by decide +kernel
theorem test_jobClose_returns_to_zero :
    (after (.jobClose .A) (after (.jobOpen .A 300 200) written)).arbiter.target = 0 := by decide +kernel
theorem test_next_of_an_empty_queue :
    replied .A 0x04#8 0x00#8 [0x01#8, 0x01#8] (after (.next .A) (jobA id)) = true := by decide +kernel
/-- A NEXT for a PIERCE is granted in the event, and its reply tells of the release (R74). -/
theorem test_next_releases_a_pierce :
    let t := after (.next .A) (holding [⟨40, .pierce none, 0, 0, .final⟩] (jobA id))
    replied .A 0x04#8 0x00#8 [0x00#8, 0x00#8, 0x28#8, 0x01#8, 0x00#8, 0x00#8, 0x00#8, 0x00#8] t = true ∧
      t.laneA.seq.state = .piercing .ramp ∧ t.arbiter.target = 1400 ∧ t.portA.tx.length = 1 := by decide +kernel
theorem test_done_of_a_traverse :
    let s := jobA fun q =>
      { q with state := .traversing, released := .segment ⟨7, .traverse 100, 0, 0, .final⟩, elapsed := some 3 }
    (after (.done .A 7) s).laneA.seq.state = .ready ∧ (after (.done .A 7) s).laneA.fifo.length = 1 := by decide +kernel
theorem test_resume_owes_a_kerf_repierce :
    let s := jobA fun q =>
      { q with state := .fault, faultCause := some .stall, lastFaulted := some .line, postedJet := true }
    (after (.resume .A) s).laneA.seq.repierceKind = some .kerf := by decide +kernel
theorem test_abort_writes_its_record :
    ((after (.abort (.head .A)) (holding [⟨40, .pierce none, 0, 0, .final⟩] (jobA id))).laneA.fifo.map
      fun r => (r.kind, r.discarded)) = [(.abort, some 1)] := by decide +kernel
theorem test_inhibit_faults_a_cut :
    (after .inhibitAssert (jobA fun q => { q with state := .openIdle })).laneA.seq.state = .fault := by decide +kernel
theorem test_pump_loss_empties_the_history :
    (after (.feedback 3000 3) (after (.feedback 3000 1) State.reset)).monitor.history = [] := by decide +kernel
theorem test_feedback_is_held_to_7000 : (after (.feedback 65535 1) State.reset).monitor.filtered = 7000 := by
  decide +kernel
theorem test_timestamp_wraps :
    (after .timestampWrap { State.reset with timestamp := 65535 }).timestamp = 0 ∧
      (after .timestampWrap { State.reset with timestamp := 65535 }).cellPending .timeWrap = true := by decide +kernel
/-- Lane A in RAMP with the grant, its settle and its lock timeout expiring at the next tick. -/
def ramping (lock : Nat) : State :=
  ((jobA fun q => { q with state := .piercing .ramp, lockTimer := some lock }).modMonitor fun m =>
    { m with history := [1400], filtered := 1400, settleTimer := some 1, ramped := 1400, streaming := true }).modArbiter
      fun a => { a with holder := some ⟨.A, .full, 1400⟩, target := 1400 }
/-- The tick whose expiry opens the valve counts in VALVE_OPEN_MS (9.4, tick 1230). -/
theorem test_opening_tick_counts :
    (after .settleTimerExpiry (after .timebaseTick (ramping 9))).laneA.counters.valveOpenMs = 1 := by decide +kernel
/-- A lock timeout taken before the settle leaves the valve closed, and no tick counts (R75). -/
theorem test_lock_timeout_first_counts_nothing :
    let s := after .settleTimerExpiry (after (.lockTimeoutExpiry .A) (after .timebaseTick (ramping 1)))
    s.laneA.seq.state = .fault ∧ s.laneA.counters.valveOpenMs = 0 := by decide +kernel
/-- The tick whose expiry closes the valve does not count in VALVE_OPEN_MS (9.4, tick 2780). -/
theorem test_closing_tick_does_not_count :
    let s := jobA fun q => { q with state := .stopping, purgeTimer := some 2 }
    let closed := after (.purgeExpiry .A) (after .timebaseTick (after .timebaseTick s))
    closed.laneA.seq.state = .ready ∧ closed.laneA.counters.valveOpenMs = 1 := by decide +kernel
/-- A POST taken before the stall expiry keeps the valve open, and the tick counts (R73). -/
theorem test_post_before_the_stall_counts :
    let s := holding [entry 41 (.line (straight 0 false false)) .provisional]
      (jobA fun q =>
        { q with state := .openIdle, nextPending := true, postedJet := true, lastSegId := some 41, stallTimer := some 1 })
    let t := after (.post .A 42 (.known (.line (straight 0 false false)))) (after .timebaseTick s)
    t.laneA.seq.state = .cutting ∧ t.laneA.counters.valveOpenMs = 1 := by decide +kernel
/-- The first SETPOINT after a start is 0 with the run flag clear, whatever the target (R116, R194). -/
theorem test_first_setpoint :
    let s := after .timebaseTick (after (.jobOpen .A 300 200) written)
    s.arbiter.target = 1000 ∧ s.pumpTx = [wire 0x60#8 [0x00#8, 0x00#8, 0x00#8]] ∧
      (after .timebaseTick s).monitor.ramped = 10 := by decide +kernel
theorem test_counter_saturates :
    countUp 1 4294967295 = 4294967295 ∧ countUp 600000 4294967000 = 4294967295 := by decide
/-- The steps of level 6 in a cycle (R148). -/
theorem test_pattern_of_level_6 :
    (List.range 16).filter (fun k => emitsStep k 6) = [2, 5, 7, 10, 13, 15] := by decide
theorem test_reset_closes_the_jobs :
    (after .reset (jobs id id)).laneA.seq.state = .closed ∧ (after .reset (jobs id id)).config = written.config := by
  decide +kernel
theorem test_no_word_is_a_command : decodeTableWord 16 0x0001 = none := by decide

/-! ## States and operands that meet the hypotheses of the statements -/

theorem witness_StepTakesFrontCommand :
    ({ State.reset with pending := [.timebaseTick, .reset] } : State).pending = .timebaseTick :: [.reset] ∧
      State.reset.pending = [] := by decide
theorem witness_EveryCommandCompletes :
    let s := State.reset.modPort .C fun u => { u with line := [.modeMirrorOff, .reset] }
    requestPort .reset = some .C ∧ requestPort (.status .C) = some .C ∧ s.resetInput = false ∧
      (s.port .C).line = .modeMirrorOff :: [.reset] ∧ Instr.modeMirrorOff ≠ .reset ∧
      Instr.modeMirrorOff ≠ .status .C := by decide
theorem witness_RequestFramesDecode :
    (Instr.jobOpen .A 65535 1000).wellFormed = true ∧
      encodeRequest (.jobOpen .A 65535 1000) = some (.A, 0x01, [0xFF#8, 0xFF#8, 0x03#8, 0xE8#8]) ∧
      (Instr.frameRefused .A 0x99#8 []).wellFormed = true ∧ (frameVerdict .A 0x99#8 []).isSome = true := by
  decide +kernel
theorem witness_BadFramesAreRefused :
    State.reset.hands .C (.frameRefused .C 0x04#8 []) = true ∧ frameVerdict .C 0x04#8 [] = some .badKind ∧
      State.reset.hands .A (.frameRefused .A 0x08#8 []) = true ∧ frameVerdict .A 0x08#8 [] = some .badLength ∧
      (0x04#8 : Byte) ∉ [0x06#8, 0x10#8, 0x11#8, 0x12#8, 0x13#8, 0x20#8, 0x21#8, 0x22#8, 0x23#8, 0x24#8] := by
  decide +kernel
theorem witness_GoodFrameJoinsTheLine :
    State.reset.resetInput = false ∧ (State.reset.rx Port.A.link).state = .hunt ∧
      (List.replicate 48 (0xA5#8 : Byte)).length ≤ 48 ∧
      let s : State :=
        { State.reset with
          pending := (wire 0x04#8 (List.replicate 48 0xA5#8)).map (Instr.linkByteReceived Port.A.link) }
      s.pending = (wire 0x04#8 (List.replicate 48 0xA5#8)).map (Instr.linkByteReceived Port.A.link) := by
  decide +kernel
theorem witness_PumpFrameIsTaken :
    State.reset.pumpRx.state = .hunt ∧
      let s : State :=
        { State.reset with pending := (wire 0x61#8 [0x0E#8, 0xD8#8, 0x01#8]).map (Instr.linkByteReceived .pump) }
      s.pending = (wire 0x61#8 [0x0E#8, 0xD8#8, 0x01#8]).map (Instr.linkByteReceived .pump) := by decide +kernel
theorem witness_ReceiverTakesByteOrDiscards :
    let rx (state : RxState) : State := State.reset.setRx .A { state := state, gapTimer := some 0 }
    ((rx .hunt).rx .A).state = .hunt ∧ ((rx (.header none)).rx .A).state = .header none ∧
      ((rx (.header (some 0x04#8))).rx .A).state = .header (some 0x04#8) ∧ 48 < (0x31#8 : Byte).toNat ∧
      ((rx (.payload 0x05#8 2 [0x00#8])).rx .A).state = .payload 0x05#8 2 [0x00#8] ∧
      ((rx (.check 0x04#8 [] none)).rx .A).state = .check 0x04#8 [] none ∧
      ((rx (.check 0x04#8 [] (some 0x00#8))).rx .A).state = .check 0x04#8 [] (some 0x00#8) ∧
      [0x00#8, 0x00#8] ≠ crcField 0x04#8 [] ∧ ((rx .hunt).rx .A).gapTimer = some 0 ∧
      (State.reset.rx .pump).gapTimer ≠ some 0 ∧ (rx .hunt).resetInput = false := by decide +kernel
theorem witness_SentFrameLeavesItsLink : State.reset.resetInput = false ∧ Link.A ≠ Link.pump := by decide
theorem witness_StatusShowsTheState :
    let e := entry 41 (.line (straight 0 false false)) .final
    let one := jobA fun q => { q with state := .cutting, released := .segment e, lastSegId := some 65535 }
    let two := (jobA fun q => { q with released := .repierce 41 .full }).modMon .A fun m => { m with lastWindow := some 0 }
    let waits : State :=
      two.modArbiter fun a => { a with queue := [⟨.A, .full, 1400, some 1, false⟩, ⟨.B, .kerf, 600, none, true⟩] }
    one.hands .A (.status .A) = true ∧ one.laneA.seq.released = .segment e ∧ one.laneA.seq.lastSegId = some 65535 ∧
      two.laneA.seq.released = .repierce 41 .full ∧ two.laneA.mon.lastWindow = some 0 ∧
      waits.hands .C (.status .C) = true ∧ waits.arbiter.queue.length < 4 ∧
      waits.arbiter.queue.head? = some ⟨.A, .full, 1400, some 1, false⟩ ∧
      waits.arbiter.queue[1]? = some ⟨.B, .kerf, 600, none, true⟩ ∧ waits.monitor.history.length < 16 ∧
      waits.laneB.gen.slot < 16 := by decide +kernel
theorem witness_ClearMaskAndRoute :
    State.reset.hands .A (.clear .A 0x000003FF#32) = true ∧ State.reset.hands .A (.clear .A 0x00000400#32) = true ∧
      State.reset.hands .C (.mask .C 0x000FFFFF#32) = true ∧ State.reset.hands .C (.mask .C 0x00100000#32) = true ∧
      State.reset.hands .C (.route 0xFFFF#16) = true := by decide +kernel
theorem witness_CounterReadAndClear :
    State.reset.hands .A (.counterRead .A 2 0) = true ∧ State.reset.hands .B (.counterRead .B 2 0) = true ∧
      State.reset.hands .C (.counterRead .C 5 2) = true ∧ State.reset.hands .C (.counterReadClear .C 5) = true ∧
      State.reset.hands .C (.counterReadClear .C 6) = true := by decide +kernel
theorem witness_RecipeWriteIsChecked :
    State.reset.hands .C (.tableWriteRecipe 31 image) = true ∧ State.reset.hands .C (.tableWriteRecipe 32 image) = true ∧
      (jobA id).hands .C (.tableWriteRecipe 0 image) = true ∧ (jobA id).jobless .A = false ∧
      (jobA id).laneA.seq.recipe = some 0 := by decide +kernel
theorem witness_SelectionWritesAreChecked :
    State.reset.hands .C (.tableWriteElement 47 ⟨1, 1, 5, 5, 10, 1000, 1, 31⟩) = true ∧
      State.reset.hands .C (.tableWriteElement 48 ⟨1, 1, 5, 5, 10, 1000, 1, 31⟩) = true ∧
      (jobA id).hands .C (.tableWriteControl 0 ⟨48, 1, 31⟩) = true ∧ (jobA id).jobless .A = false ∧
      State.reset.hands .C (.tableWriteControl 0 ⟨48, 1, 31⟩) = true := by decide +kernel
theorem witness_FactorTableWriteIsChecked :
    let values := [1000, 1000, 2200, 10000]
    State.reset.hands .C (.tableWriteFactorTable .dq 0 values) = true ∧ values.length = 4 ∧
      State.reset.jobless .A = true ∧ State.reset.jobless .B = true ∧ (∀ v ∈ values, 500 ≤ v ∧ v ≤ 10000) ∧
      values.Pairwise (· ≤ ·) ∧ (∃ v ∈ [499, 500, 500, 500], v < 500 ∨ 10000 < v) ∧
      (∀ v ∈ [501, 500, 500, 500], 500 ≤ v ∧ v ≤ 10000) ∧ ¬ [501, 500, 500, 500].Pairwise (· ≤ ·) ∧
      (jobA id).jobless .A = false ∧ (jobA id).hands .C (.tableWriteFactorTable .dq 0 values) = true ∧
      State.reset.hands .C (.tableWriteFactorTable (.undefined 11) 0 []) = true ∧ [1000].length ≠ 4 := by
  decide +kernel
theorem witness_PartitionWriteMovesTheStore :
    let m : PartitionImage := ⟨⟨0, 256⟩, ⟨256, 256⟩, ⟨512, 64⟩, ⟨576, 64⟩, 256, 0, 0, 1⟩
    State.reset.hands .C (.tableWritePartition 0 m) = true ∧ State.reset.hands .C (.tableWritePartition 1 m) = true ∧
      State.reset.jobless .A = true ∧ State.reset.jobless .B = true ∧ partitionInRange m = true ∧
      regionsApart m.queueA m.queueB m.fifoA m.fifoB = true ∧
      partitionInRange { m with fifoB := ⟨576, 65⟩ } = false ∧ partitionInRange { m with fifoB := ⟨511, 64⟩ } = true ∧
      regionsApart m.queueA m.queueB m.fifoA ⟨511, 64⟩ = false ∧
      (jobA id).hands .C (.tableWritePartition 0 m) = true ∧ (jobA id).jobless .A = false := by decide +kernel
theorem witness_TimingWriteIsChecked :
    State.reset.hands .C (.tableWriteTiming 0 ⟨30000, 500, 60000, 0, 200, 5, 25, 10, 3000, 2999, 100, 100, 20, 0, 2, 500,
      255, 0, 15, 1⟩) = true := by decide +kernel
theorem witness_TableReadsShowTheStore :
    written.hands .C (.tableReadRecipe 31) = true ∧ written.config.recipes[31]? = some Recipe.powerOn ∧
      written.config.elements[47]? = some Element.powerOn ∧
      written.hands .C (.tableReadSelection .element 48) = true := by decide +kernel
theorem witness_SelectionFindsTheDecidingElement :
    let any : Element := ⟨true, .mask, 0, 0, 10, 1000, .use 0⟩
    let c : ConfigStore := { written.config with elements := [Element.powerOn, any], control := ⟨2, .reject, 0⟩ }
    1 < c.control.listLength ∧ c.elements[1]? = some any ∧ any.enabled = true ∧ any.tmin ≤ 1000 ∧ 1000 ≤ any.tmax ∧
      7 &&& any.code2 = any.code1 &&& any.code2 ∧ c.elements[0]? = some Element.powerOn ∧
      Element.powerOn.enabled = false ∧ State.reset.config.control.listLength = 0 := by decide +kernel
theorem witness_JobOpenEntersReady :
    written.hands .A (.jobOpen .A 300 1000) = true ∧ (written.config.select 300 1000).succeeds = true ∧
      written.laneState .A = .closed ∧ State.reset.hands .B (.jobOpen .B 300 1001) = true := by decide +kernel
theorem witness_WaitsInOrder : WaitsInOrder (jobA id) where
  waiting := by simp [jobA, written, State.modSeq, State.modLane, State.reset, State.started, Arbiter.reset]
  once := by decide
  mirror := by decide
  leader := by decide
theorem witness_JobCloseDropsTheJob :
    (jobA id).hands .A (.jobClose .A) = true ∧ (jobA id).laneState .A = .ready ∧ (jobA id).fill .A = 0 ∧
      (jobA id).jobless .B = true ∧ (holding [⟨1, .traverse 1, 0, 0, .final⟩] (jobA id)).fill .A ≠ 0 := by
  decide +kernel
theorem witness_FeedTablesRatioAndAngle :
    [0, 200, 400].Pairwise (· < ·) ∧ [0, 200, 400].length = [1000, 900, 700].length ∧ 200 ≤ 399 ∧ 399 < 400 ∧
      [0, 200, 400].getLast? = some 400 ∧ [1000, 900, 700].getLast? = some 700 ∧ 0 < readKp .powerOn 3800 ∧
      readKp .powerOn 499 = 0 ∧ FactorTables.powerOn.kr.head? = some 300 ∧
      FactorTables.powerOn.ka[16 - 1]? = some 1155 ∧ FactorTables.powerOn.dq[4 - 1]? = some 3000 := by decide
theorem witness_PostIsCheckedInOrder :
    let seg := Segment.line (straight 0 false false)
    let c := Instr.post .A 0 (.known seg)
    let s := jobA fun q => { q with postedJet := true, lastSegId := some 65535 }
    let high : State :=
      { s with config := { s.config with recipes := [{ worked with feedFloor := 202 }] } }
    let small : State :=
      holding [entry 65534 seg .final, entry 65535 seg .final]
        { s with config := { s.config with partition := { Partition.powerOn with queueA := ⟨0, 2⟩ } } }
    (State.reset.hands .A c = true ∧ State.reset.laneState .A = .closed) ∧
      (s.hands .A c = true ∧ s.jobless .A = false ∧ postInRange (.known seg) = true ∧
        followsLast s.laneA.seq.lastSegId 0 = true ∧ followsLast s.laneA.seq.lastSegId 1 = false ∧
        jetAgrees seg s.laneA.seq.postedJet = true ∧ jetAgrees (.pierce (some 100)) s.laneA.seq.postedJet = false ∧
        postInRange (.known (.pierce (some 99))) = false) ∧
      (small.hands .A c = true ∧ (small.queueRegion .A).size ≤ small.fill .A) ∧
      (high.hands .A c = true ∧ high.fill .A < (high.queueRegion .A).size ∧
        segmentFeed high.config.tables (high.recipe .A) seg < (high.recipe .A).feedFloor) := by decide +kernel
theorem witness_AcceptedPostIsQueued :
    let seg := Segment.line (straight 900 false false)
    let s := holding [entry 41 (.line (straight 0 false false)) .provisional]
      (jobA fun q => { q with state := .openIdle, nextPending := true, postedJet := true, lastSegId := some 41 })
    s.hands .A (.post .A 42 (.known seg)) = true ∧ s.jobless .A = false ∧ postInRange (.known seg) = true ∧
      followsLast s.laneA.seq.lastSegId 42 = true ∧ jetAgrees seg s.laneA.seq.postedJet = true ∧
      s.fill .A < (s.queueRegion .A).size ∧ (s.recipe .A).feedFloor ≤ 201 ∧
      segmentFeed s.config.tables (s.recipe .A) seg = 201 := by decide +kernel
theorem witness_NextAnswersOrWaits :
    let cut := entry 41 (.line (straight 0 false false)) .final
    let owed := holding [cut] (jobA fun q => { q with repierceFlag := true, repierceKind := some .kerf })
    let idle := holding [cut] (jobA fun q => { q with state := .openIdle })
    owed.hands .A (.next .A) = true ∧ owed.laneState .A = .ready ∧ owed.laneA.seq.nextPending = false ∧
      owed.laneA.seq.repierceFlag = true ∧ owed.queueHead .A = some cut ∧ Segment.isCut cut.seg = true ∧
      idle.hands .A (.next .A) = true ∧ idle.laneState .A = .openIdle ∧ idle.queueHead .A = some cut ∧
      (after (.next .A) idle).laneA.seq.nextPending = false ∧ (after (.next .A) (jobA id)).laneA.seq.nextPending = true ∧
      (jobA fun q => { q with state := .stopping }).hands .A (.next .A) = true := by decide +kernel
/-- A head to judge in the arbiter's part of a NEXT, with the peer condition failing and holding. -/
theorem witness_NextAnswersOrWaits_arbiter :
    let s (peer : LaneState) := (jobs id fun q => { q with state := peer }).modArbiter fun a =>
      { a with queue := [⟨.A, .full, 1400, some 9, false⟩] }
    (s .stopping).arbiter.queue = ⟨.A, .full, 1400, some 9, false⟩ :: [] ∧ (s .stopping).arbiter.holder = none ∧
      (s .stopping).inhibit = false ∧ (s .stopping).monitor.lost = false ∧ (s .stopping).laneState .B = .stopping ∧
      (s .ready).laneState .B = .ready ∧ (jobA id).arbiter.queue = [] := by decide +kernel
theorem witness_ReleaseAttemptFollowsTheHead :
    let s := holding [entry 41 (.line (straight 0 false false)) .provisional]
      (jobA fun q => { q with state := .openIdle, nextPending := true })
    let r := holding [entry 41 (.line (straight 0 false false)) .final]
      (jobA fun q => { q with nextPending := true, repierceFlag := true, repierceKind := some .full })
    s.resetInput = false ∧ s.laneA.seq.nextPending = true ∧ s.laneState .A = .openIdle ∧
      (s.queueHead .A).isSome = true ∧ r.laneState .A = .ready ∧ r.laneA.seq.nextPending = true ∧
      r.laneA.seq.repierceFlag = true ∧ r.laneA.seq.repierceKind = some .full ∧
      (jobA id).laneA.seq.nextPending = false := by decide +kernel
theorem witness_RecordsAreWrittenAndStored :
    let r : Record := ⟨1, .traverse, .done, 0, 0, none, none, none⟩
    let full : State :=
      { (jobA fun q => { q with released := .segment ⟨7, .traverse 1, 0, 0, .final⟩, elapsed := some 65535 }) with
        config := { written.config with
          partition := { Partition.powerOn with fifoA := ⟨512, 1⟩, modeA := .overwrite } } }
    let full := full.modLane .A fun u => { u with fifo := [r] }
    full.laneA.fifo ≠ [] ∧ (full.fifoRegion .A).size ≤ full.laneA.fifo.length ∧ full.fifoMode .A = .overwrite ∧
      full.laneA.seq.elapsed = some 65535 ∧ State.reset.laneA.fifo = [] ∧ State.reset.fifoMode .A = .keep ∧
      [r].length < (State.reset.fifoRegion .A).size := by decide +kernel
theorem witness_DoneEndsTheSegment :
    let s (off : Bool) := jobA fun q =>
      { q with
        state := .cutting, released := .segment (entry 41 (.line (straight 0 off false)) .final), elapsed := some 0 }
    (s true).hands .A (.done .A 41) = true ∧ (s true).laneState .A = .cutting ∧ ((s true).recipe .A).purge ≠ 0 ∧
      (s false).hands .A (.done .A 40) = true ∧ Recipe.powerOn.purge = 0 := by decide +kernel
theorem witness_ResumeOwesTheRepierce :
    let s := jobA fun q => { q with state := .fault, faultCause := some .pumpLoss }
    s.hands .A (.resume .A) = true ∧ s.laneState .A = .fault ∧ s.monitor.lost = false ∧
      (s.modMonitor fun m => { m with lost := true }).hands .A (.resume .A) = true := by decide +kernel
theorem witness_AbortClearsTheLane :
    (jobA id).hands .A (.abort (.head .A)) = true ∧ (jobA id).hands .C (.abort (.cell 0)) = true ∧
      (jobA id).hands .C (.abort (.cell 2)) = true ∧ (jobA id).laneState .A = .ready := by decide +kernel
theorem witness_ComplReadTakesTheOldest :
    State.reset.hands .A (.complRead .A 1) = true ∧ State.reset.hands .A (.complRead .A 4) = true ∧
      State.reset.hands .A (.complRead .A 5) = true ∧ State.reset.hands .A (.complRead .A 0) = true := by
  decide +kernel
theorem witness_CausesFaultTheirStates :
    FaultCause.reaches .stall ((jobA fun q => { q with state := .openIdle }).laneState .A) = true ∧
      FaultCause.reaches .stall ((jobA id).laneState .A) = false ∧
      FaultCause.reaches .pumpLoss ((jobA fun q => { q with state := .piercing .ramp }).laneState .A) = true := by
  decide +kernel
theorem witness_LaneTimersExpire :
    let s := jobA fun q =>
      { q with
        state := .piercing .opened, lockTimer := some 0, stallTimer := some 0, leadTimer := some 0,
        dwellTimer := some 0, purgeTimer := some 0 }
    let waits := s.modArbiter fun a => { a with queue := [⟨.A, .full, 1400, some 0, false⟩] }
    s.resetInput = false ∧ s.laneA.seq.lockTimer = some 0 ∧ s.laneA.seq.stallTimer = some 0 ∧
      s.laneA.seq.leadTimer = some 0 ∧ s.laneA.seq.state = .piercing .opened ∧
      (s.modSeq .A fun q => { q with state := .piercing .dwell }).laneA.seq.state = .piercing .dwell ∧
      (s.modSeq .A fun q => { q with state := .stopping }).laneA.seq.purgeTimer = some 0 ∧
      (s.modGov .A fun g => { g with starvationTimer := some 0 }).laneA.gov.starvationTimer = some 0 ∧
      (∃ e ∈ waits.arbiter.queue, e.lane = .A ∧ e.waitTimer = some 0) ∧ State.reset.laneA.seq.lockTimer ≠ some 0 := by
  decide +kernel
theorem witness_SettleLocksAndOpens :
    let s := (jobs (fun q => { q with state := .piercing .ramp }) fun q => { q with state := .piercing .ramp }).modMonitor
      fun m => { m with settleTimer := some 0 }
    s.resetInput = false ∧ s.monitor.settleTimer = some 0 ∧ s.laneState .A = .piercing .ramp ∧
      s.laneState .B = .piercing .ramp ∧ State.reset.monitor.settleTimer ≠ some 0 ∧
      State.reset.laneState .A ≠ .piercing .ramp := by decide +kernel
theorem witness_HeadEntryIsJudged :
    let e (given : Bool) : PierceEntry := ⟨.A, .full, 1400, some 9, given⟩
    let s (peer : LaneState) (given : Bool) :=
      (jobs id fun q => { q with state := peer }).modArbiter fun a => { a with queue := [e given] }
    (s .stopping false).arbiter.queue = e false :: [] ∧ (s .stopping false).arbiter.holder = none ∧
      (s .stopping false).inhibit = false ∧ (s .stopping false).monitor.lost = false ∧
      (s .stopping false).laneState .B = .stopping ∧ (s .stopping true).arbiter.queue = e true :: [] ∧
      (s .fault false).laneState .B = .fault ∧ State.reset.arbiter.queue = [] := by decide +kernel
theorem witness_GrantReleasesThePierce :
    let s := holding [⟨40, .pierce none, 0, 0, .final⟩] (jobA id)
    s.queueHead .A = some ⟨40, .pierce none, 0, 0, .final⟩ := by decide +kernel
theorem witness_TargetFollowsTheRows :
    let held := (jobA id).modArbiter fun a => { a with holder := some ⟨.A, .full, 1400⟩ }
    let open' := jobs (fun q => { q with state := .openIdle }) fun q => { q with state := .stopping }
    held.inhibit = false ∧ held.monitor.lost = false ∧ held.jobless .A = false ∧
      held.arbiter.holder = some ⟨.A, .full, 1400⟩ ∧ open'.arbiter.holder = none ∧ open'.laneState .A = .openIdle ∧
      open'.laneState .B = .stopping ∧ State.reset.jobless .A = true ∧ State.reset.jobless .B = true := by
  decide +kernel
theorem witness_ValidSampleIsTaken :
    let s := State.reset.modMonitor fun m => { m with window := List.replicate 62 1000 }
    s.resetInput = false ∧ s.monitor.window.length < 63 ∧ s.monitor.ramped = s.arbiter.target ∧
      max 0 s.arbiter.target - min 0 s.arbiter.target ≤ s.config.timing.band ∧
      150 < max 7000 s.arbiter.target - min 7000 s.arbiter.target := by decide +kernel
theorem witness_RippleWindowIsJudged :
    let s := State.reset.modMonitor fun m => { m with window := List.replicate 63 1000 }
    s.monitor.window.length = 63 ∧ State.reset.monitor.window.length ≠ 63 ∧ s.config.timing.assertThreshold ≤ 1300 - 1000 ∧
      s.monitor.alarm = false ∧ 150 ≤ s.config.timing.deassertThreshold ∧ 150 < s.config.timing.assertThreshold ∧
      s.resetInput = false ∧ s.monitor.ramped = s.arbiter.target ∧ max 150 s.arbiter.target ≤ s.config.timing.band ∧
      ¬ max 1000 s.arbiter.target - min 1000 s.arbiter.target ≤ s.config.timing.band := by
  decide +kernel
theorem witness_PumpLossIsDeclared :
    State.reset.resetInput = false ∧ State.reset.monitor.lossTimer ≠ some 0 ∧
      (State.reset.modMonitor fun m => { m with lossTimer := some 0 }).monitor.lossTimer = some 0 := by decide +kernel
theorem witness_TicksAndWraps :
    State.reset.resetInput = false ∧ State.reset.takeDue.timestamp < 65535 ∧
      65535 ≤ ({ State.reset with timestamp := 65535 } : State).takeDue.timestamp ∧
      ({ State.reset with timestamp := 65535 } : State).timestamp = 65535 ∧ State.reset.timestamp ≠ 65535 := by
  decide +kernel
/-- A tick to count, with an expiry left that can move a valve and with none. -/
theorem witness_TicksAndWraps_count :
    let s (stall : Timer) : State :=
      { jobA fun q => { q with state := .openIdle, stallTimer := stall } with valveDue := true }
    (s (some 0)).valveDue = true ∧ (s (some 0)).laneA.seq.stallTimer = some 0 ∧ (s (some 9)).expiring = false ∧
      State.reset.valveDue = false := by decide +kernel
theorem witness_GovernorsEvaluate :
    let e := entry 41 (.line (straight 0 false false)) .final
    let s := (jobA fun q => { q with state := .cutting, released := .segment e }).modMonitor fun m =>
      { m with filtered := 1400 }
    s.laneState .A = .cutting ∧ s.laneA.seq.released = .segment e ∧
      e.fSeg * pressureRatio s.config.tables s.monitor.filtered (s.recipe .A).pCut / 1000 < (s.recipe .A).feedFloor ∧
      s.laneA.gov.starved = false ∧ ({ s with evaluationDue := true } : State).evaluationDue = true ∧
      (s.modGov .A fun g => { g with starved := true }).laneA.gov.starved = true := by decide +kernel
theorem witness_SlotsEmitThePattern :
    let s := (jobA id).modGen .A fun _ => ⟨true, 6, some 10, 15, some 0⟩
    s.resetInput = false ∧ s.laneA.gen.slotTimer = some 0 ∧ State.reset.laneA.gen.slotTimer ≠ some 0 ∧ 16 ≤ 16 := by
  decide +kernel
theorem witness_FlowFilterFollowsItsInput :
    let s := State.reset.modFilter .A fun f => { f with input := .high, timer := some 0 }
    State.reset.resetInput = false ∧ Level.high ≠ State.reset.laneA.filter.input ∧ s.laneA.filter.timer = some 0 ∧
      Level.high = s.laneA.filter.input ∧ ({ State.reset with resetInput := true } : State).resetInput = true ∧
      State.reset.laneA.filter.timer ≠ some 0 := by decide +kernel
theorem witness_WindowsJudgeTheFlow :
    let m (edges bad good : Nat) (grace : Grace) : FlowMonitor := ⟨edges, some 0, grace, bad, good, none⟩
    let s (edges bad good : Nat) (grace : Grace) := (jobA id).modMon .A fun _ => m edges bad good grace
    let t := State.reset.config.timing
    (s 4 0 1 .expired).laneA.mon = m 4 0 1 .expired ∧ t.minimumEdgeCount ≤ 4 ∧ 1 + 1 < t.clearCount ∧
      t.clearCount ≤ 2 + 1 ∧ ¬ t.minimumEdgeCount ≤ 3 ∧ (s 3 0 0 .expiring).laneA.mon.grace = .expiring ∧
      3 + 1 < t.assertCount ∧ t.assertCount ≤ 4 + 1 ∧ (s 3 4 0 (.running 0)).laneA.mon.grace = .running 0 ∧
      (s 3 4 0 .expired).resetInput = false := by decide +kernel
theorem witness_InhibitFollowsItsInput :
    State.reset.inhibitInput = false ∧ State.reset.resetInput = false ∧
      ({ State.reset with inhibitInput := true } : State).inhibitInput = true ∧
      ({ State.reset with resetInput := true } : State).resetInput = true := by decide
theorem witness_ModeGangsAndParts :
    let ganged : State := ({ State.reset with mirror := true } : State).modSeq .B fun q => { q with state := .mirrored }
    State.reset.hands .C (.modeMirrorOn 1) = true ∧ State.reset.laneState .A = .closed ∧
      State.reset.laneState .B = .closed ∧ State.reset.mirror = false ∧ State.reset.hands .C (.modeMirrorOn 2) = true ∧
      ganged.hands .C .modeMirrorOff = true ∧ ganged.mirror = true ∧ ganged.laneState .B = .mirrored ∧
      ganged.laneState .A = .closed ∧ (jobA id).hands .C (.modeMirrorOn 1) = true ∧ (jobA id).laneState .A = .ready := by
  decide +kernel
theorem witness_ResetInputStartsThePart :
    ({ jobs id id with resetInput := true } : State).resetInput = true ∧ Instr.timebaseTick ≠ .powerOn := by
  decide +kernel
theorem witness_ResetKeepsAndClears : (jobs id id).hands .C .reset = true := by decide +kernel

/-! Each invariant holds in a state with a job open and a command waiting, and its step answers a next state. -/

/-- A job open on lane A, with a tick waiting. -/
def ticking : State := { jobA id with pending := [.timebaseTick] }

theorem ticking_steps : ∃ t, step ticking = .next t := ⟨_, rfl⟩
theorem witness_EveryStepKeepsJetsSafe : JetsSafe ticking where
  withheld := by rintro (h | h) <;> cases h
  traverse := by intro L h; cases L <;> cases h
theorem witness_EveryStepKeepsTheGrantHeld : GrantHeld ticking := by intro L phase h; cases L <;> cases h
theorem witness_EveryStepKeepsWaitsInOrder : WaitsInOrder ticking where
  waiting := witness_WaitsInOrder.waiting
  once := witness_WaitsInOrder.once
  mirror := witness_WaitsInOrder.mirror
  leader := witness_WaitsInOrder.leader
theorem witness_EveryStepKeepsTheStoreWithin : StoreWithin ticking where
  queue := by intro L; cases L <;> exact ⟨by decide, ⟨by decide, by decide⟩, by decide⟩
  fifo := by intro L; cases L <;> decide
  room := by intro L; cases L <;> decide
theorem witness_EveryStepKeepsTheSetpointWithin : SetpointWithin ticking where
  config :=
    { recipeCount := by decide
      recipes := by decide +kernel
      elementCount := by decide
      elements := by decide +kernel
      control := by decide
      partition := by decide
      apart := by decide
      timing := by decide
      thresholds := by decide
      tables := by intro item h; cases item <;> first | decide +kernel | cases h }
  target := by decide
  ramped := by decide
  holder := by intro h e; cases e
  queue := by intro e h; cases h
theorem witness_EveryStepKeepsTheSamplesWithin : SamplesWithin ticking where
  history := by decide
  samples := by intro p h; cases h
  filtered := by decide
  window := by decide
  lost := by intro h; cases h
theorem witness_CountersOnlyRise :
    CountersWithin ticking ∧ (∃ t, exec .timebaseTick ticking = .next t ∧ t.counters[0]? = some 0) ∧
      ticking.counters[0]? = some 0 := by
  refine ⟨?_, ⟨_, rfl, by decide +kernel⟩, by decide +kernel⟩
  unfold CountersWithin
  decide +kernel

end Sys2Proof.Tests
end

/-! PROOFS. TABLE_WRITE of a recipe, of a selection list element and of the control, and selection (O14, O15, O20). -/

namespace Sys2Proof.Machine

/-! ## Requests of the configuration store -/

/-- What a TABLE_WRITE of a recipe does in the event in which it is handed on. -/
theorem exec_tableWriteRecipe_of_hands {index : Nat} {m : RecipeImage} {s : State}
    (h : s.hands .C (.tableWriteRecipe index m) = true) :
    exec (.tableWriteRecipe index m) s = .next ((s.handed .C).writeRecipe index m) :=
  congrArg Host.Outcome.next (State.handOn_of_hands h _)

/-- What a TABLE_WRITE of an element does in the event in which it is handed on. -/
theorem exec_tableWriteElement_of_hands {index : Nat} {m : ElementImage} {s : State}
    (h : s.hands .C (.tableWriteElement index m) = true) :
    exec (.tableWriteElement index m) s = .next ((s.handed .C).writeElement index m) :=
  congrArg Host.Outcome.next (State.handOn_of_hands h _)

/-- What a TABLE_WRITE of the control does in the event in which it is handed on. -/
theorem exec_tableWriteControl_of_hands {index : Nat} {m : ControlImage} {s : State}
    (h : s.hands .C (.tableWriteControl index m) = true) :
    exec (.tableWriteControl index m) s = .next ((s.handed .C).writeControl index m) :=
  congrArg Host.Outcome.next (State.handOn_of_hands h _)

/-- A refused TABLE_WRITE leaves its reply and nothing else (R173). -/
@[simp] theorem State.refuseWrite_handed (s : State) (result : Result) :
    (s.handed .C).refuseWrite result = s.answeredAt .C kindTableWrite result [] :=
  State.refuse_handed ..

/-- A taken TABLE_WRITE leaves its OK reply and the written configuration (R190). -/
@[simp] theorem State.takeWrite_handed (s : State) (config : ConfigStore) :
    (s.handed .C).takeWrite config = { s.answeredAt .C kindTableWrite .ok [] with config := config } :=
  State.reply_handed { s with config := config } .C kindTableWrite .ok []

/-! ## Jobs in the way of a write (R5) -/

theorem State.jobOpen_iff_not_jobless (s : State) (L : Lane) : s.jobOpen L = true ↔ s.jobless L = false := by
  unfold State.jobOpen State.jobless
  cases s.laneState L <;> simp [LaneState.jobOpen]

theorem State.anyJobOpen_iff (s : State) : s.anyJobOpen = true ↔ s.jobless .A = false ∨ s.jobless .B = false := by
  simp only [State.anyJobOpen, Bool.or_eq_true, State.jobOpen_iff_not_jobless]

theorem State.recipeInUse_iff (s : State) (n : Nat) :
    s.recipeInUse n = true ↔
      s.jobless .A = false ∧ s.laneA.seq.recipe = some n ∨ s.jobless .B = false ∧ s.laneB.seq.recipe = some n := by
  simp [State.recipeInUse, State.jobOpen_iff_not_jobless, State.lane]

@[simp] theorem State.handed_recipeInUse (s : State) (p : Port) (n : Nat) :
    (s.handed p).recipeInUse n = s.recipeInUse n := by
  simp only [State.recipeInUse, State.handed_jobOpen, State.handed_lane]

/-! ## Ranges and order rules of the written items -/

theorem within_iff (lo hi v : Nat) : within lo hi v = true ↔ lo ≤ v ∧ v ≤ hi := by simp [within]

theorem flagOk_iff (v : Nat) : flagOk v = true ↔ v ≤ 1 := by simp [flagOk, within_iff]

theorem recipeInRange_iff (m : RecipeImage) :
    recipeInRange m = true ↔
      m.valid ≤ 1 ∧ 10 ≤ m.sb ∧ m.sb ≤ 6000 ∧ 1500 ≤ m.pCut ∧ m.pCut ≤ 6200 ∧ 600 ≤ m.pPierce ∧ m.pPierce ≤ 6200 ∧
        100 ≤ m.pierceDwell ∧ m.pierceDwell ≤ 30000 ∧ m.kerfDwell ≤ 30000 ∧ 1 ≤ m.lCut ∧ m.lCut ≤ 16 ∧
        1 ≤ m.lPierce ∧ m.lPierce ≤ 16 ∧ m.abrasiveLead ≤ 500 ∧ m.purge ≤ 2000 ∧ 1 ≤ m.feedFloor ∧
        m.feedFloor ≤ 6000 ∧ 100 ≤ m.closingFactor ∧ m.closingFactor ≤ 1000 ∧ 500 ≤ m.rippleDerate ∧
        m.rippleDerate ≤ 1000 := by
  simp only [recipeInRange, Bool.and_eq_true, flagOk_iff, within_iff, Nat.zero_le, true_and, and_assoc]

theorem elementInRange_iff (m : ElementImage) :
    elementInRange m = true ↔
      m.enabled ≤ 1 ∧ m.type ≤ 2 ∧ (m.action = 0 ∧ m.recipe = 0 ∨ m.action = 1 ∧ m.recipe ≤ 31) ∧
        m.code1 ≤ 65535 ∧ m.code2 ≤ 65535 ∧ 10 ≤ m.tmin ∧ m.tmin ≤ 1000 ∧ 10 ≤ m.tmax ∧ m.tmax ≤ 1000 := by
  simp only [elementInRange, Bool.and_eq_true, Bool.or_eq_true, beq_iff_eq, flagOk_iff, within_iff,
    Nat.zero_le, true_and, and_assoc]

theorem elementOrdered_iff (m : ElementImage) :
    elementOrdered m = true ↔ m.tmin ≤ m.tmax ∧ (m.type = 1 → m.code1 ≤ m.code2) := by
  simp [elementOrdered, imp_iff_not_or]

theorem controlInRange_iff (m : ControlImage) :
    controlInRange m = true ↔ m.listLength ≤ 48 ∧ m.policy ≤ 1 ∧ m.defaultRecipe ≤ 31 := by
  simp only [controlInRange, Bool.and_eq_true, flagOk_iff, within_iff, Nat.zero_le, true_and, and_assoc]

/-! ## The stored form of the written items -/

theorem elementTypeOf_eq (code : Nat) :
    elementTypeOf code = if code = 0 then .exact else if code = 1 then .range else .mask := by
  match code with
  | 0 => rfl
  | 1 => rfl
  | n + 2 => rfl

/-- What an element write stores (R188). -/
theorem elementOf_eq (m : ElementImage) :
    elementOf m =
      { enabled := decide (m.enabled = 1)
        type := if m.type = 0 then .exact else if m.type = 1 then .range else .mask
        code1 := m.code1
        code2 := m.code2
        tmin := m.tmin
        tmax := m.tmax
        action := if m.action = 1 then .use m.recipe else .reject } := by
  simp only [elementOf, elementTypeOf_eq, Bool.beq_eq_decide_eq]

/-- A policy byte in its range is REJECT exactly when it is 0. -/
theorem controlOf_eq {m : ControlImage} (h : m.policy ≤ 1) :
    controlOf m =
      { listLength := m.listLength, policy := if m.policy = 0 then .reject else .use,
        defaultRecipe := m.defaultRecipe } := by
  obtain h0 | h1 : m.policy = 0 ∨ m.policy = 1 := by omega
  · simp [controlOf, h0]
  · simp [controlOf, h1]

/-! ## The writes -/

/-- TABLE_WRITE of a recipe, handed on: the checks of R3 behind the index check of R189. -/
theorem State.writeRecipe_handed (s : State) (index : Nat) (m : RecipeImage) :
    (s.handed .C).writeRecipe index m =
      if recipeMax < index then s.answeredAt .C kindTableWrite .badField []
      else if s.recipeInUse index then s.answeredAt .C kindTableWrite .inUse []
      else if recipeInRange m then
        { s.answeredAt .C kindTableWrite .ok [] with
          config := { s.config with recipes := s.config.recipes.set index (recipeOf m) } }
      else s.answeredAt .C kindTableWrite .badField [] := by
  simp only [State.writeRecipe, State.handed_recipeInUse, State.refuseWrite_handed, State.takeWrite_handed,
    State.handed_config, Bool.not_eq_true', ← Bool.not_eq_true, ite_not]

/-- TABLE_WRITE of an element, handed on: the checks of R9 behind the index check of R189. -/
theorem State.writeElement_handed (s : State) (index : Nat) (m : ElementImage) :
    (s.handed .C).writeElement index m =
      if elementMax < index then s.answeredAt .C kindTableWrite .badField []
      else if s.anyJobOpen then s.answeredAt .C kindTableWrite .inUse []
      else if ¬ elementInRange m then s.answeredAt .C kindTableWrite .badField []
      else if elementOrdered m then
        { s.answeredAt .C kindTableWrite .ok [] with
          config := { s.config with elements := s.config.elements.set index (elementOf m) } }
      else s.answeredAt .C kindTableWrite .tableOrder [] := by
  simp only [State.writeElement, State.handed_anyJobOpen, State.refuseWrite_handed, State.takeWrite_handed,
    State.handed_config, Bool.not_eq_true', ← Bool.not_eq_true, ite_not]

/-- TABLE_WRITE of the control, handed on: the checks of R10 behind the index check of R189. -/
theorem State.writeControl_handed (s : State) (index : Nat) (m : ControlImage) :
    (s.handed .C).writeControl index m =
      if 0 < index then s.answeredAt .C kindTableWrite .badField []
      else if s.anyJobOpen then s.answeredAt .C kindTableWrite .inUse []
      else if controlInRange m then
        { s.answeredAt .C kindTableWrite .ok [] with config := { s.config with control := controlOf m } }
      else s.answeredAt .C kindTableWrite .badField [] := by
  simp only [State.writeControl, State.handed_anyJobOpen, State.refuseWrite_handed, State.takeWrite_handed,
    State.handed_config, Bool.not_eq_true', ← Bool.not_eq_true, ite_not]

/-- Settles O14: the checks of R3 meet the written-out ranges and the jobs of R5 one by one, in their order. -/
theorem recipeWriteIsChecked : Obligations.RecipeWriteIsChecked := by
  unfold Obligations.RecipeWriteIsChecked
  intro index m s h
  rw [exec_tableWriteRecipe_of_hands h, State.writeRecipe_handed]
  simp only [recipeMax, State.recipeInUse_iff, recipeInRange_iff, recipeOf, Bool.beq_eq_decide_eq]

/-- Settles O15: the checks of R9 and R10 are the written-out ones, in their order; a taken control write has its policy
byte in range, so that the stored policy is the one the byte spells. -/
theorem selectionWritesAreChecked : Obligations.SelectionWritesAreChecked := by
  unfold Obligations.SelectionWritesAreChecked
  refine ⟨fun index m s h => ?element, fun index m s h => ?control⟩
  case element =>
    rw [exec_tableWriteElement_of_hands h, State.writeElement_handed]
    simp only [elementMax, State.anyJobOpen_iff, elementInRange_iff, elementOrdered_iff, elementOf_eq]
  case control =>
    rw [exec_tableWriteControl_of_hands h, State.writeControl_handed]
    simp only [State.anyJobOpen_iff, controlInRange_iff, Nat.pos_iff_ne_zero]
    by_cases inRange : m.listLength ≤ 48 ∧ m.policy ≤ 1 ∧ m.defaultRecipe ≤ 31
    · obtain ⟨-, policy, -⟩ := inRange
      rw [controlOf_eq policy]
    · simp only [if_neg inRange]

/-! ## Selection (R12, R13) -/

/-- A recipe number without a record counts as not valid: the power-on record in its place is not (R2). -/
theorem ConfigStore.recipeValid_eq (c : ConfigStore) (n : Nat) :
    c.recipeValid n = ((c.recipes[n]?).map Recipe.valid).getD false := by
  rw [ConfigStore.recipeValid, List.getD_eq_getElem?_getD]
  cases c.recipes[n]? <;> rfl

/-- The first matching position below the list length decides. -/
theorem ConfigStore.select_of_first_match {c : ConfigStore} {material thickness i : Nat} {e : Element}
    (consulted : i < c.control.listLength) (at_i : c.elements[i]? = some e)
    (hit : e.matches material thickness = true)
    (first : ∀ j d, j < i → c.elements[j]? = some d → d.matches material thickness = false) :
    c.select material thickness = c.decideBy (some i) e.action := by
  have in_take : (c.elements.take c.control.listLength)[i]? = some e := by
    rw [List.getElem?_take, if_pos consulted, at_i]
  have found : (c.elements.take c.control.listLength).findIdx? (Element.matches material thickness) = some i := by
    obtain ⟨i_lt, get_i⟩ := List.getElem?_eq_some_iff.mp in_take
    refine List.findIdx?_eq_some_iff_getElem.mpr ⟨i_lt, get_i ▸ hit, fun j before => ?_⟩
    have at_j := List.getElem?_eq_getElem (before.trans i_lt)
    rw [List.getElem?_take, if_pos (before.trans consulted)] at at_j
    exact Bool.eq_false_iff.mp (first j _ before at_j)
  simp only [ConfigStore.select, found, List.getD_eq_getElem?_getD, in_take, Option.getD_some]

/-- With no match below the list length the non-match policy decides. -/
theorem ConfigStore.select_of_no_match {c : ConfigStore} {material thickness : Nat}
    (miss : ∀ i e, i < c.control.listLength → c.elements[i]? = some e → e.matches material thickness = false) :
    c.select material thickness = c.decideBy none c.control.policyAction := by
  have found : (c.elements.take c.control.listLength).findIdx? (Element.matches material thickness) = none := by
    refine List.findIdx?_eq_none_iff.mpr fun e mem => ?_
    obtain ⟨i, at_i⟩ := List.mem_iff_getElem?.mp mem
    rw [List.getElem?_take, Option.ite_none_right_eq_some] at at_i
    exact miss i e at_i.1 at_i.2
  simp only [ConfigStore.select, found]

/-- Settles O20: the model's match is R12's table, and `select` answers as the two cases of its search say. -/
theorem selectionFindsTheDecidingElement : Obligations.SelectionFindsTheDecidingElement := by
  unfold Obligations.SelectionFindsTheDecidingElement
  intro c material thickness isMatch valid outcome
  have isMatch_iff (e : Element) : e.matches material thickness = true ↔ isMatch e := by
    simp only [Element.matches, Element.codeMatches, Bool.and_eq_true, decide_eq_true_eq, and_assoc, isMatch]
    cases e.type <;> simp
  have decideBy_eq (source : Option Nat) (action : ElementAction) :
      c.decideBy source action = outcome source action := by
    cases action with
    | use n => simp only [ConfigStore.decideBy, ConfigStore.recipeValid_eq, outcome, valid]
    | reject => rfl
  refine ⟨fun i e consulted at_i hit first => ?found, fun miss => ?none⟩
  case found =>
    have misses j d (before : j < i) (at_j : c.elements[j]? = some d) : d.matches material thickness = false :=
      Bool.eq_false_iff.mpr (mt (isMatch_iff d).mp (first j d before at_j))
    rw [ConfigStore.select_of_first_match consulted at_i ((isMatch_iff e).mpr hit) misses, decideBy_eq]
  case none =>
    have misses i e (consulted : i < c.control.listLength) (at_i : c.elements[i]? = some e) :
        e.matches material thickness = false :=
      Bool.eq_false_iff.mpr (mt (isMatch_iff e).mp (miss i e consulted at_i))
    exact (ConfigStore.select_of_no_match misses).trans (decideBy_eq none _)

end Sys2Proof.Machine

/-! PROOFS. The feed calculator: table readings, the pressure ratio and the turn angle (O23). -/

namespace Sys2Proof.Machine

/-! ## Interpolation between two breakpoints (R19) -/

/-- A proper fraction of a rise, truncated, stays within the rise. -/
theorem tdiv_mul_within_of_nonneg {a y d : Int} (rise : 0 ≤ a) (y_nonneg : 0 ≤ y) (y_lt : y < d) :
    0 ≤ Int.tdiv (a * y) d ∧ Int.tdiv (a * y) d ≤ a := by
  have d_pos : 0 < d := y_nonneg.trans_lt y_lt
  refine ⟨Int.tdiv_nonneg (Int.mul_nonneg rise y_nonneg) d_pos.le, ?_⟩
  calc Int.tdiv (a * y) d
      ≤ Int.tdiv (a * d) d := Int.tdiv_le_tdiv d_pos (Int.mul_le_mul_of_nonneg_left y_lt.le rise)
    _ = a := Int.mul_tdiv_cancel a d_pos.ne'

/-- A proper fraction of a change, rise or fall, truncated toward zero, stays within the change: a fall is the negated
rise. -/
theorem tdiv_mul_within (a : Int) {y d : Int} (y_nonneg : 0 ≤ y) (y_lt : y < d) :
    min 0 a ≤ Int.tdiv (a * y) d ∧ Int.tdiv (a * y) d ≤ max 0 a := by
  obtain rise | fall := Int.le_total 0 a
  · have := tdiv_mul_within_of_nonneg rise y_nonneg y_lt
    omega
  · have := tdiv_mul_within_of_nonneg (Int.neg_nonneg_of_nonpos fall) y_nonneg y_lt
    rw [Int.neg_mul, Int.neg_tdiv] at this
    omega

/-- The interpolated value lies between the two entries, so it is not negative and loses nothing as a natural number. -/
theorem interpolate_spec (v0 v1 : Nat) {b0 b1 x : Nat} (left : b0 ≤ x) (right : x < b1) :
    (interpolate b0 b1 v0 v1 x : Int) = v0 + Int.tdiv (((v1 : Int) - v0) * ((x : Int) - b0)) ((b1 : Int) - b0) ∧
      min v0 v1 ≤ interpolate b0 b1 v0 v1 x ∧ interpolate b0 b1 v0 v1 x ≤ max v0 v1 := by
  have correction := tdiv_mul_within ((v1 : Int) - v0) (y := (x : Int) - b0) (d := (b1 : Int) - b0)
    (by omega) (by omega)
  unfold interpolate
  omega

theorem interpolate_at_left (b0 b1 v0 v1 : Nat) : interpolate b0 b1 v0 v1 b0 = v0 := by
  simp [interpolate]

/-! ## Which pair of breakpoints a reading uses (R19) -/

theorem readTable_of_lt (bs vs : List Nat) {b0 b1 v0 v1 x : Nat} (below : x < b1) :
    readTable (b0 :: b1 :: bs) (v0 :: v1 :: vs) x = interpolate b0 b1 v0 v1 x := if_pos below

theorem readTable_of_le (bs vs : List Nat) {b0 b1 v0 v1 x : Nat} (reached : b1 ≤ x) :
    readTable (b0 :: b1 :: bs) (v0 :: v1 :: vs) x = readTable (b1 :: bs) (v1 :: vs) x := if_neg reached.not_gt

/-- The first breakpoint of a rising list is the least. -/
theorem head_le_of_mem {b b' : Nat} {bs : List Nat} (rising : (b :: bs).Pairwise (· < ·)) (mem : b' ∈ b :: bs) :
    b ≤ b' := by
  obtain rfl | mem := List.mem_cons.mp mem
  · exact le_rfl
  · exact (List.rel_of_pairwise_cons rising mem).le

/-- Between two neighbouring breakpoints the reading interpolates their two entries. -/
theorem readTable_eq_interpolate {bs vs : List Nat} {x i b0 b1 v0 v1 : Nat} (rising : bs.Pairwise (· < ·))
    (at_b0 : bs[i]? = some b0) (at_b1 : bs[i + 1]? = some b1) (at_v0 : vs[i]? = some v0)
    (at_v1 : vs[i + 1]? = some v1) (left : b0 ≤ x) (right : x < b1) :
    readTable bs vs x = interpolate b0 b1 v0 v1 x := by
  induction i generalizing bs vs with
  | zero =>
    match bs, vs with
    | c0 :: c1 :: bs, w0 :: w1 :: vs =>
      cases at_b0; cases at_b1; cases at_v0; cases at_v1
      exact readTable_of_lt bs vs right
  | succ i ih =>
    match bs, vs with
    | c0 :: c1 :: bs, w0 :: w1 :: vs =>
      have reached : c1 ≤ x := (head_le_of_mem rising.of_cons (List.mem_of_getElem? at_b0)).trans left
      rw [readTable_of_le bs vs reached]
      exact ih rising.of_cons at_b0 at_b1 at_v0 at_v1

/-- At the last breakpoint and above it the reading is the last entry. -/
theorem readTable_eq_last {bs vs : List Nat} {x b v : Nat} (rising : bs.Pairwise (· < ·))
    (lengths : bs.length = vs.length) (last_b : bs.getLast? = some b) (last_v : vs.getLast? = some v) (reached : b ≤ x) :
    readTable bs vs x = v := by
  induction bs generalizing vs with
  | nil => cases last_b
  | cons c0 bs ih =>
    match bs, vs with
    | [], [w] => exact Option.some.inj last_v
    | c1 :: bs, w0 :: w1 :: vs =>
      rw [List.getLast?_cons_cons] at last_b last_v
      have head_reached : c1 ≤ x := (head_le_of_mem rising.of_cons (List.mem_of_getLast? last_b)).trans reached
      rw [readTable_of_le bs vs head_reached]
      exact ih rising.of_cons (Nat.succ.inj lengths) last_b last_v

/-! ## The factors (R21, R22, R23, R26) -/

theorem readKp_of_lt (t : FactorTables) {x : Nat} (low : x < 500) : readKp t x = 0 := if_pos low

theorem readKp_of_le (t : FactorTables) {x : Nat} (h : 500 ≤ x) : readKp t x = readTable kpBreakpoints t.kp x :=
  if_neg h.not_gt

theorem readKa_eq {t : FactorTables} {level v : Nat} (entry : t.ka[level - 1]? = some v) : readKa t level = v := by
  rw [readKa, List.getD_eq_getElem?_getD, entry, Option.getD_some]

theorem readDq_eq {t : FactorTables} {cls v : Nat} (entry : t.dq[cls - 1]? = some v) : readDq t cls = v := by
  rw [readDq, List.getD_eq_getElem?_getD, entry, Option.getD_some]

theorem readKr_of_lt {t : FactorTables} {x v : Nat} (low : x < 20) (first : t.kr.head? = some v) : readKr t x = v := by
  rw [readKr, if_pos low, List.getD_eq_getElem?_getD, ← List.head?_eq_getElem?, first, Option.getD_some]

theorem readKr_of_le (t : FactorTables) {x : Nat} (h : 20 ≤ x) : readKr t x = readTable krBreakpoints t.kr x :=
  if_neg h.not_gt

/-! ## The pressure ratio (R29) -/

theorem pressureRatio_of_zero {t : FactorTables} {pCut : Nat} (x : Nat) (zero : readKp t pCut = 0) :
    pressureRatio t x pCut = 0 := if_pos zero

theorem pressureRatio_of_pos {t : FactorTables} {pCut : Nat} (x : Nat) (pos : 0 < readKp t pCut) :
    pressureRatio t x pCut = min 1000 (1000 * readKp t x / readKp t pCut) := if_neg pos.ne'

theorem pressureRatio_le (t : FactorTables) (x pCut : Nat) : pressureRatio t x pCut ≤ 1000 := by
  obtain zero | pos := Nat.eq_zero_or_pos (readKp t pCut)
  · rw [pressureRatio_of_zero x zero]
    exact Nat.zero_le _
  · rw [pressureRatio_of_pos x pos]
    exact Nat.min_le_left ..

theorem pressureRatio_self {t : FactorTables} {pCut : Nat} (pos : 0 < readKp t pCut) :
    pressureRatio t pCut pCut = 1000 := by
  rw [pressureRatio_of_pos pCut pos, Nat.mul_div_cancel _ pos, Nat.min_self]

/-! ## The turn angle (R30) -/

theorem turnAngle_eq (d1 d2 : Nat) :
    turnAngle d1 d2 = min (max d1 d2 - min d1 d2) (3600 - (max d1 d2 - min d1 d2)) := rfl

theorem turnAngle_comm (d1 d2 : Nat) : turnAngle d1 d2 = turnAngle d2 d1 := by
  rw [turnAngle_eq, turnAngle_eq, Nat.max_comm, Nat.min_comm d1]

theorem turnAngle_self (d : Nat) : turnAngle d d = 0 := by simp [turnAngle_eq]

theorem turnAngle_le (d1 d2 : Nat) : turnAngle d1 d2 ≤ 1800 := by
  rw [turnAngle_eq]
  omega

/-- Directions are at most 3599, so the subtraction from 3600 is exact. -/
theorem turnAngle_eq_abs {d1 d2 : Nat} (h1 : d1 ≤ 3599) (h2 : d2 ≤ 3599) :
    (turnAngle d1 d2 : Int) = min |(d1 : Int) - d2| (3600 - |(d1 : Int) - d2|) := by
  have distance : ((max d1 d2 - min d1 d2 : Nat) : Int) = |(d1 : Int) - d2| := by
    rw [Int.abs_eq_natAbs]
    omega
  rw [turnAngle_eq]
  omega

/-- Settles O23, rule by rule of chapter 2: the table reading, the factors, the ratio and the angle. -/
theorem feedTablesRatioAndAngle : Obligations.FeedTablesRatioAndAngle := by
  unfold Obligations.FeedTablesRatioAndAngle
  refine ⟨⟨?between, ?last, ?kpLow, ?kp, ?kc, ?ka, ?dq, ?krLow, ?kr⟩, ?ratio, ?angle⟩
  case between =>
    intro bs vs x i b0 b1 v0 v1 rising _ at_b0 at_b1 at_v0 at_v1 left right
    rw [readTable_eq_interpolate rising at_b0 at_b1 at_v0 at_v1 left right]
    obtain ⟨value, above, below⟩ := interpolate_spec v0 v1 left right
    exact ⟨value, above, below, fun at_left => at_left ▸ interpolate_at_left x b1 v0 v1⟩
  case last => exact fun _ _ _ _ _ rising lengths last_b last_v => readTable_eq_last rising lengths last_b last_v
  case kpLow => exact fun t _ => readKp_of_lt t
  case kp => exact fun t _ => readKp_of_le t
  case kc => exact fun _ _ => rfl
  case ka => exact fun _ _ _ _ => readKa_eq
  case dq => exact fun _ _ _ _ => readDq_eq
  case krLow => exact fun _ _ _ => readKr_of_lt
  case kr => exact fun t _ => readKr_of_le t
  case ratio =>
    exact fun t x pCut =>
      ⟨pressureRatio_of_zero x, pressureRatio_of_pos x, pressureRatio_le t x pCut, pressureRatio_self⟩
  case angle =>
    exact fun d1 d2 h1 h2 => ⟨turnAngle_eq_abs h1 h2, turnAngle_le d1 d2, turnAngle_comm d1 d2, turnAngle_self d1⟩

end Sys2Proof.Machine

/-! PROOFS. COMPL_READ: the completion FIFO is read from its old end, and the layout of a record (O32). -/

namespace Sys2Proof.Machine

/-! ## A reply and a change of a lane -/

/-- A reply touches its port alone, so a lane may as well be changed behind it. -/
theorem State.answeredAt_modLane (s : State) (L : Lane) (f : LaneUnit → LaneUnit) (p : Port) (kind : Nat)
    (result : Result) (body : List Byte) :
    (s.modLane L f).answeredAt p kind result body = (s.answeredAt p kind result body).modLane L f := by
  cases L <;> cases p <;> rfl

theorem State.handed_modLane (s : State) (L : Lane) (f : LaneUnit → LaneUnit) (p : Port) :
    (s.handed p).modLane L f = (s.modLane L f).handed p := by
  cases L <;> cases p <;> rfl

/-- The reply to a request that changed its lane in the event in which it was handed on (R173). -/
theorem State.reply_modLane_handed (s : State) (L : Lane) (f : LaneUnit → LaneUnit) (p : Port) (kind : Nat)
    (result : Result) (body : List Byte) :
    ((s.handed p).modLane L f).reply p kind result body = (s.answeredAt p kind result body).modLane L f := by
  rw [State.handed_modLane, State.reply_handed, State.answeredAt_modLane]

/-- What a lane is changed to may be said of the lane as it stands. -/
theorem State.modLane_congr {s : State} {L : Lane} {f g : LaneUnit → LaneUnit} (h : f (s.lane L) = g (s.lane L)) :
    s.modLane L f = s.modLane L g := by
  cases L
  · exact congrArg (fun u => { s with laneA := u }) h
  · exact congrArg (fun u => { s with laneB := u }) h

/-! ## The layout of a record (R175, R177) -/

theorem recordKindCode_mul (kind : RecordKind) :
    recordKindCode kind * 16 =
      match kind with
      | .traverse => 0
      | .pierce => 16
      | .line => 32
      | .arc => 48
      | .repierce => 64
      | .abort => 80 := by
  cases kind <;> rfl

theorem recordEndCode_eq (outcome : RecordEnd) :
    recordEndCode outcome =
      match outcome with
      | .done => 0
      | .aborted => 1
      | .faulted .abrasiveLoss => 2
      | .faulted .pumpLoss => 3
      | .faulted .inhibit => 4
      | .faulted .stall => 5
      | .faulted .starved => 6
      | .faulted .lockTimeout => 7 := by
  match outcome with
  | .done => rfl
  | .aborted => rfl
  | .faulted cause => cases cause <;> rfl

/-! ## COMPL_READ (R56) -/

theorem exec_complRead_of_hands {L : Lane} {n : Nat} {s : State} (h : s.hands L.port (.complRead L n) = true) :
    exec (.complRead L n) s = .next ((s.handed L.port).takeComplRead L n) :=
  congrArg Host.Outcome.next (State.handOn_of_hands h _)

theorem not_within_iff (lo hi v : Nat) : (!within lo hi v) = true ↔ v < lo ∨ hi < v := by
  rw [Bool.not_eq_true', ← Bool.not_eq_true, within_iff, not_and_or, Nat.not_le, Nat.not_le]

/-- COMPL_READ, handed on: its two checks in order, then the oldest records move from the FIFO into the reply. -/
theorem State.takeComplRead_handed (s : State) (L : Lane) (n : Nat) :
    (s.handed L.port).takeComplRead L n =
      if s.laneState L = .mirrored then s.answeredAt L.port kindComplRead .mirrored []
      else if n < 1 ∨ 4 < n then s.answeredAt L.port kindComplRead .badField []
      else
        (s.answeredAt L.port kindComplRead .ok
          (byte (min n (s.lane L).fifo.length) ::
            ((s.lane L).fifo.take (min n (s.lane L).fifo.length)).flatMap recordBytes)).modLane L fun u =>
              { u with fifo := u.fifo.drop (min n (s.lane L).fifo.length) } := by
  simp only [State.takeComplRead, State.handed_laneState, State.handed_lane, State.refuse_handed, not_within_iff,
    State.reply_modLane_handed]

/-- Settles O32: the two checks and the read of the FIFO, and the code byte of a record kind by kind and end by end. -/
theorem complReadTakesTheOldest : Obligations.ComplReadTakesTheOldest := by
  unfold Obligations.ComplReadTakesTheOldest
  intro L n s h
  refine ⟨?taken, fun r => ?layout⟩
  case taken =>
    rw [exec_complRead_of_hands h, State.takeComplRead_handed]
    congr 3
    exact State.modLane_congr (by rw [State.answeredAt_lane])
  case layout =>
    rewrite [recordBytes, recordKindCode_mul, recordEndCode_eq]
    rfl

end Sys2Proof.Machine

/-! PROOFS. The event units: CLEAR, MASK and ROUTE (O11), the raising and copying of events and the attention lines
(O12). -/

namespace Sys2Proof.Machine

/-! ## A change of a port -/

/-- What a port is changed to may be said of the port as it stands. -/
theorem State.modPort_congr {s : State} {p : Port} {f g : PortUnit → PortUnit} (h : f (s.port p) = g (s.port p)) :
    s.modPort p f = s.modPort p g := by
  cases p
  · exact congrArg (fun u => { s with portA := u }) h
  · exact congrArg (fun u => { s with portB := u }) h
  · exact congrArg (fun u => { s with portC := u }) h

/-- A port changed to what it already is leaves the state as it was. -/
theorem State.modPort_of_eq {s : State} {p : Port} {f : PortUnit → PortUnit} (h : f (s.port p) = s.port p) :
    s.modPort p f = s :=
  (State.modPort_congr (g := id) h).trans (by cases p <;> rfl)

/-- A request and its reply leave the event unit of their port alone, so the reply to a request that changed that unit
in the event in which it was handed on may as well come first (R173). -/
theorem State.reply_modEvents_handed (s : State) (p : Port) (f : EventUnit → EventUnit) (kind : Nat) (result : Result)
    (body : List Byte) :
    ((s.handed p).modEvents p f).reply p kind result body = (s.answeredAt p kind result body).modEvents p f := by
  have handed_first : (s.handed p).modEvents p f = (s.modEvents p f).handed p := by cases p <;> rfl
  have answered_first :
      (s.modEvents p f).answeredAt p kind result body = (s.answeredAt p kind result body).modEvents p f := by
    cases p <;> rfl
  rw [handed_first, State.reply_handed, answered_first]

/-! ## The defined events of a port (R179) -/

/-- Two masks have an event in common. -/
theorem and_ne_zero_iff {w : Nat} (x y : BitVec w) :
    x &&& y ≠ 0 ↔ ∃ n, x.getLsbD n = true ∧ y.getLsbD n = true := by
  constructor
  · intro common
    by_contra! apart
    refine common (BitVec.eq_of_getLsbD_eq fun n _ => ?_)
    cases hx : x.getLsbD n with
    | false => simp [hx]
    | true => simp [Bool.eq_false_iff.mpr (apart n hx)]
  · rintro ⟨n, hx, hy⟩ apart
    have bit := congrArg (·.getLsbD n) apart
    simp [hx, hy] at bit

/-- The number of events a port defines: they are its lowest bits (R179). -/
def eventCount (p : Port) : Nat := if p = .C then 20 else 10

theorem definedEvents_getLsbD (p : Port) (n : Nat) : (definedEvents p).getLsbD n = decide (n < eventCount p) := by
  have lowest : definedEvents p = BitVec.ofNat 32 (2 ^ eventCount p - 1) := by cases p <;> rfl
  have fits : eventCount p ≤ 32 := by cases p <;> decide
  rw [lowest, BitVec.getLsbD_ofNat, Nat.testBit_two_pow_sub_one, Bool.and_eq_right_iff_imp, decide_eq_true_iff,
    decide_eq_true_iff]
  omega

theorem not_definedEvents_getLsbD (p : Port) {n : Nat} (h : n < 32) :
    (~~~definedEvents p).getLsbD n = true ↔ eventCount p ≤ n := by
  simp only [BitVec.getLsbD_not, h, definedEvents_getLsbD, decide_true, Bool.true_and, Bool.not_eq_true',
    decide_eq_false_iff_not, Nat.not_lt]

/-- A mask names an undefined event exactly when it is no number of `eventCount` bits (R182, R183). -/
theorem outsideEvents_iff (p : Port) (events : BitVec 32) :
    outsideEvents p events = true ↔ ¬ events.toNat < 2 ^ eventCount p := by
  rw [outsideEvents, bne_iff_ne, and_ne_zero_iff, Nat.not_lt]
  constructor
  · rintro ⟨n, named, undefined⟩
    have above : eventCount p ≤ n := (not_definedEvents_getLsbD p (BitVec.lt_of_getLsbD named)).mp undefined
    calc 2 ^ eventCount p ≤ 2 ^ n := Nat.pow_le_pow_right Nat.two_pos above
      _ ≤ events.toNat := Nat.ge_two_pow_of_testBit ((BitVec.testBit_toNat events).trans named)
  · intro large
    obtain ⟨n, above, bit⟩ := Nat.exists_ge_and_testBit_of_ge_two_pow large
    have named : events.getLsbD n = true := (BitVec.testBit_toNat events).symm.trans bit
    exact ⟨n, named, (not_definedEvents_getLsbD p (BitVec.lt_of_getLsbD named)).mpr above⟩

/-! ## CLEAR, MASK and ROUTE (R182, R183) -/

theorem exec_clear_of_hands {p : Port} {events : BitVec 32} {s : State} (h : s.hands p (.clear p events) = true) :
    exec (.clear p events) s = .next ((s.handed p).takeClear p events) :=
  congrArg Host.Outcome.next (State.handOn_of_hands h _)

theorem exec_mask_of_hands {p : Port} {events : BitVec 32} {s : State} (h : s.hands p (.mask p events) = true) :
    exec (.mask p events) s = .next ((s.handed p).takeMask p events) :=
  congrArg Host.Outcome.next (State.handOn_of_hands h _)

theorem exec_route_of_hands {events : BitVec 16} {s : State} (h : s.hands .C (.route events) = true) :
    exec (.route events) s = .next ((s.handed .C).takeRoute events) :=
  congrArg Host.Outcome.next (State.handOn_of_hands h _)

/-- CLEAR, handed on: the named events leave the pending set, or the mask is refused. -/
theorem State.takeClear_handed (s : State) (p : Port) (events : BitVec 32) :
    (s.handed p).takeClear p events =
      if events.toNat < 2 ^ eventCount p then
        (s.answeredAt p kindClear .ok []).modEvents p fun u => { u with pending := u.pending &&& ~~~events }
      else s.answeredAt p kindClear .badField [] := by
  simp only [State.takeClear, outsideEvents_iff, State.refuse_handed, State.reply_modEvents_handed, ite_not]

/-- MASK, handed on: the mask becomes the enable mask, or it is refused. -/
theorem State.takeMask_handed (s : State) (p : Port) (events : BitVec 32) :
    (s.handed p).takeMask p events =
      if events.toNat < 2 ^ eventCount p then
        (s.answeredAt p kindMask .ok []).modEvents p fun u => { u with enable := events }
      else s.answeredAt p kindMask .badField [] := by
  simp only [State.takeMask, outsideEvents_iff, State.refuse_handed, State.reply_modEvents_handed, ite_not]

/-- ROUTE, handed on: the mask becomes the route mask. -/
theorem State.takeRoute_handed (s : State) (events : BitVec 16) :
    (s.handed .C).takeRoute events = { s.answeredAt .C kindRoute .ok [] with route := events } :=
  State.reply_handed { s with route := events } .C kindRoute .ok []

/-- Settles O11: each request is taken on the state it left behind, and a mask is outside the defined events exactly
when it is too large a number. -/
theorem clearMaskAndRoute : Obligations.ClearMaskAndRoute := by
  unfold Obligations.ClearMaskAndRoute
  refine ⟨fun p events s h => ?clear, fun p events s h => ?mask, fun events s h => ?route⟩
  case clear =>
    rw [exec_clear_of_hands h, State.takeClear_handed]
    rfl
  case mask =>
    rw [exec_mask_of_hands h, State.takeMask_handed]
    rfl
  case route => rw [exec_route_of_hands h, State.takeRoute_handed]

/-! ## Attention (R181) -/

theorem State.attention_iff (s : State) (p : Port) :
    s.attention p = true ↔
      ∃ n, (s.port p).events.pending.getLsbD n = true ∧ (s.port p).events.enable.getLsbD n = true := by
  rw [State.attention, bne_iff_ne]
  exact and_ne_zero_iff _ _

/-! ## Raising an event (R179, R180) -/

theorem bitMask_getLsbD (bit : Nat) {n : Nat} (h : n < 32) : (bitMask bit).getLsbD n = (n == bit) := by
  rw [bitMask, ← BitVec.twoPow_eq, BitVec.getLsbD_twoPow, Bool.beq_eq_decide_eq]
  by_cases same : bit = n
  · simp [same, h]
  · simp [same, Ne.symm same]

theorem State.raiseBit_pending_eq (s : State) (p : Port) (bit : Nat) :
    ((s.raiseBit p bit).port p).events.pending = (s.port p).events.pending ||| bitMask bit := by
  rw [State.raiseBit, State.modEvents, State.modPort_port]

/-- The raised event joins the pending set of its port. -/
theorem State.raiseBit_pending (s : State) (p : Port) (bit : Nat) {n : Nat} (h : n < 32) :
    ((s.raiseBit p bit).port p).events.pending.getLsbD n = ((s.port p).events.pending.getLsbD n || n == bit) := by
  rw [State.raiseBit_pending_eq, BitVec.getLsbD_or, bitMask_getLsbD bit h]

/-- Raising an event on a port is no matter of the others. -/
theorem State.raiseBit_port_ne {p q : Port} (h : q ≠ p) (s : State) (bit : Nat) :
    (s.raiseBit p bit).port q = s.port q :=
  State.modPort_port_ne s h _

/-- Raising an event writes the pending set of its port and nothing else. -/
theorem State.raiseBit_eq (s : State) (p : Port) (bit : Nat) :
    s.raiseBit p bit =
      s.modPort p fun u =>
        { u with events := { u.events with pending := ((s.raiseBit p bit).port p).events.pending } } := by
  rw [State.raiseBit_pending_eq, State.raiseBit, State.modEvents]
  exact State.modPort_congr rfl

theorem lanePort_ne_C (L : Lane) : L.port ≠ .C := by cases L <;> decide

theorem copyBit_eq (L : Lane) (n : Nat) : copyBit L n = if L = .A then n else n + 8 := by cases L <;> rfl

/-- Port C raises its copy of bit `bit` of a lane's head port when `copied`, and nothing otherwise (R180). -/
def State.raiseCopy (s : State) (L : Lane) (bit : Nat) (copied : Bool) : State :=
  if copied then s.raiseBit .C (copyBit L bit) else s

theorem State.raiseHead_eq (s : State) (L : Lane) (e : HeadEvent) :
    s.raiseHead L e =
      (s.raiseBit L.port (headBit e)).raiseCopy L (headBit e)
        (decide (headBit e < 8) && s.route.getLsbD (copyBit L (headBit e))) := by
  simp only [State.raiseHead, State.raiseCopy, Bool.and_eq_true, decide_eq_true_eq]

/-- The copy is no matter of a head port. -/
theorem State.raiseCopy_headPort (s : State) (L : Lane) (bit : Nat) (copied : Bool) :
    (s.raiseCopy L bit copied).port L.port = s.port L.port := by
  cases copied with
  | false => rfl
  | true => exact State.raiseBit_port_ne (lanePort_ne_C L) s _

/-- The copy joins port C's pending set when it is raised. -/
theorem State.raiseCopy_pending (s : State) (L : Lane) (bit : Nat) (copied : Bool) {n : Nat} (h : n < 32) :
    (s.raiseCopy L bit copied).portC.events.pending.getLsbD n =
      (s.portC.events.pending.getLsbD n || (copied && n == copyBit L bit)) := by
  cases copied with
  | false => simp [State.raiseCopy]
  | true => exact State.raiseBit_pending s .C (copyBit L bit) h

/-- The copy writes port C's pending set and nothing else. -/
theorem State.raiseCopy_eq (s : State) (L : Lane) (bit : Nat) (copied : Bool) :
    s.raiseCopy L bit copied =
      s.modPort .C fun u =>
        { u with events := { u.events with pending := (s.raiseCopy L bit copied).portC.events.pending } } := by
  cases copied with
  | false => exact (State.modPort_of_eq rfl).symm
  | true => exact State.raiseBit_eq s .C (copyBit L bit)

/-- Settles O12: an event of port C's own is one raised bit there, an event of a head port one raised bit on the head
port and its copy behind it. -/
theorem eventsAreRaisedAndCopied : Obligations.EventsAreRaisedAndCopied := by
  unfold Obligations.EventsAreRaisedAndCopied
  refine ⟨⟨rfl, rfl⟩, fun s e => ?cell, State.attention_iff, fun s L e => ?head⟩
  case cell => exact ⟨fun n h => State.raiseBit_pending s .C (cellBit e) h, State.raiseBit_eq s .C (cellBit e)⟩
  case head =>
    dsimp only
    rw [← copyBit_eq, State.raiseHead_eq, State.raiseCopy_headPort]
    refine ⟨fun n h => State.raiseBit_pending s L.port (headBit e) h, fun n h => ?copy, ?frame⟩
    case copy =>
      have untouched : (s.raiseBit L.port (headBit e)).portC = s.portC :=
        State.raiseBit_port_ne (lanePort_ne_C L).symm s (headBit e)
      rw [State.raiseCopy_pending _ _ _ _ h, untouched]
    case frame =>
      rw [← State.raiseBit_eq]
      exact State.raiseCopy_eq ..

end Sys2Proof.Machine

/-! PROOFS. COUNTER_READ: the counter groups, which of them a port may read, and clear-after-read (O13). -/

namespace Sys2Proof.Machine

/-! ## The counter groups (R192) -/

/-- The group of a lane's counters (R192). -/
def laneGroup : Lane → Nat
  | .A => 0
  | .B => 1

/-- The group of a port's counters (R192). -/
def portGroup : Port → Nat
  | .A => 2
  | .B => 3
  | .C => 4

theorem State.groupValues_portGroup (s : State) (p : Port) :
    s.groupValues (portGroup p) = (s.port p).counters.values := by cases p <;> rfl

/-- Counting in a lane is a matter of that lane's group alone. -/
theorem State.groupValues_countLane (s : State) (L : Lane) (f : LaneCounters → LaneCounters) (group : Nat) :
    (s.countLane L f).groupValues group =
      if group = laneGroup L then (f (s.lane L).counters).values else s.groupValues group := by
  match group with
  | 0 | 1 | 2 | 3 | 4 | _ + 5 => cases L <;> rfl

/-- A change of a port is a matter of that port's group alone. -/
theorem State.groupValues_modPort (s : State) (p : Port) (f : PortUnit → PortUnit) (group : Nat) :
    (s.modPort p f).groupValues group =
      if group = portGroup p then (f (s.port p)).counters.values else s.groupValues group := by
  match group with
  | 0 | 1 | 2 | 3 | 4 | _ + 5 => cases p <;> rfl

/-- Counting in the pump counters is a matter of the last group alone. -/
theorem State.groupValues_countPump (s : State) (f : PumpCounters → PumpCounters) {group : Nat} (h : group ≤ 5) :
    (s.countPump f).groupValues group = if group = 5 then (f s.pumpCounters).values else s.groupValues group := by
  match group with
  | 0 | 1 | 2 | 3 | 4 | 5 => rfl

/-- A change of a port that keeps its counters keeps every group. -/
theorem State.groupValues_modPort_of_keeps {s : State} {p : Port} {f : PortUnit → PortUnit}
    (keeps : (f (s.port p)).counters = (s.port p).counters) (group : Nat) :
    (s.modPort p f).groupValues group = s.groupValues group := by
  rw [State.groupValues_modPort, keeps, ← State.groupValues_portGroup]
  split
  case isTrue own => rw [own]
  case isFalse => rfl

/-- Handing a request on counts nothing. -/
@[simp] theorem State.groupValues_handed (s : State) (p : Port) (group : Nat) :
    (s.handed p).groupValues group = s.groupValues group :=
  State.groupValues_modPort_of_keeps rfl group

/-- An OK reply counts nothing (R191). -/
@[simp] theorem State.groupValues_answeredAt_ok (s : State) (p : Port) (kind : Nat) (body : List Byte) (group : Nat) :
    (s.answeredAt p kind .ok body).groupValues group = s.groupValues group :=
  State.groupValues_modPort_of_keeps rfl group

/-! ## The clear of a group (R192) -/

/-- A clear sets each counter of its group to 0 and leaves every other group as it was. -/
theorem State.groupValues_clearGroup (s : State) {group other : Nat} (hg : group ≤ 5) (ho : other ≤ 5) :
    (s.clearGroup group).groupValues other =
      if other = group then (s.groupValues group).map fun _ => 0 else s.groupValues other := by
  match group with
  | 0 => exact State.groupValues_countLane s .A _ other
  | 1 => exact State.groupValues_countLane s .B _ other
  | 2 => exact State.groupValues_modPort s .A _ other
  | 3 => exact State.groupValues_modPort s .B _ other
  | 4 => exact State.groupValues_modPort s .C _ other
  | 5 => exact State.groupValues_countPump s _ ho

/-! ## Which groups a port may read (R192) -/

/-- A port may read the group: a head port its own lane's and its own, port C all six. -/
def MayRead (p : Port) (group : Nat) : Prop :=
  match p with
  | .A => group = 0 ∨ group = 2
  | .B => group = 1 ∨ group = 3
  | .C => group ≤ 5

theorem mayRead_le_five {p : Port} {group : Nat} (h : MayRead p group) : group ≤ 5 := by
  cases p <;> simp only [MayRead] at h <;> omega

theorem groupAllowed_iff {p : Port} {group : Nat} (h : group ≤ 5) :
    groupAllowed p group = true ↔ MayRead p group := by
  cases p <;> simp [groupAllowed, MayRead, h]

/-! ## COUNTER_READ (R192) -/

theorem exec_counterRead_of_hands {p : Port} {group flag : Nat} {s : State}
    (h : s.hands p (.counterRead p group flag) = true) :
    exec (.counterRead p group flag) s = .next ((s.handed p).takeCounterRead p group flag) :=
  congrArg Host.Outcome.next (State.handOn_of_hands h _)

theorem exec_counterReadClear_of_hands {p : Port} {group : Nat} {s : State}
    (h : s.hands p (.counterReadClear p group) = true) :
    exec (.counterReadClear p group) s = .next ((s.handed p).takeCounterRead p group 1) :=
  congrArg Host.Outcome.next (State.handOn_of_hands h _)

/-- COUNTER_READ, handed on, of a group that its port may read: the values are in the reply before the clear. -/
theorem State.takeCounterRead_of_mayRead (s : State) {p : Port} {group flag : Nat} (may : MayRead p group)
    (defined : flag ≤ 1) :
    (s.handed p).takeCounterRead p group flag =
      if flag = 1 then
        (s.answeredAt p kindCounterRead .ok (counterBody group (s.groupValues group))).clearGroup group
      else s.answeredAt p kindCounterRead .ok (counterBody group (s.groupValues group)) := by
  have range : group ≤ 5 := mayRead_le_five may
  have allowed : groupAllowed p group = true := (groupAllowed_iff range).mpr may
  simp [State.takeCounterRead, within, range, defined, allowed, State.reply_handed]

/-- COUNTER_READ, handed on, with an undefined flag or of a group that its port may not read, is refused. -/
theorem State.takeCounterRead_refused (s : State) {p : Port} {group flag : Nat}
    (outside : 1 < flag ∨ ¬ MayRead p group) :
    (s.handed p).takeCounterRead p group flag = s.answeredAt p kindCounterRead .badField [] := by
  rw [State.takeCounterRead, State.refuse_handed]
  split
  case isTrue => rfl
  case isFalse inside =>
    obtain ⟨⟨-, range⟩, -, defined⟩ : (0 ≤ group ∧ group ≤ 5) ∧ 0 ≤ flag ∧ flag ≤ 1 := by
      simpa [within] using inside
    have barred : ¬ MayRead p group := outside.resolve_left (Nat.not_lt.mpr defined)
    have notAllowed : ¬ groupAllowed p group = true := mt (groupAllowed_iff range).mp barred
    rw [if_pos (by simpa using notAllowed)]

/-- Settles O13: both rows are taken on the state their request left behind, and the clear follows the OK reply, which
counts nothing. -/
theorem counterReadAndClear : Obligations.CounterReadAndClear := by
  unfold Obligations.CounterReadAndClear
  intro p group s
  refine ⟨fun h => ⟨fun may => ?read, fun barred => ?readBarred⟩, fun flag undefined h => ?flagUndefined,
    fun h => ⟨fun may => ?clear, fun barred => ?clearBarred⟩⟩
  case read =>
    rw [exec_counterRead_of_hands h, State.takeCounterRead_of_mayRead s may (Nat.zero_le 1)]
    rfl
  case readBarred => rw [exec_counterRead_of_hands h, State.takeCounterRead_refused s (.inr barred)]
  case flagUndefined => rw [exec_counterRead_of_hands h, State.takeCounterRead_refused s (.inl undefined)]
  case clear =>
    rw [exec_counterReadClear_of_hands h, State.takeCounterRead_of_mayRead s may le_rfl]
    refine ⟨_, rfl, rfl, fun other known => ?_⟩
    rw [if_pos rfl, State.groupValues_clearGroup _ (mayRead_le_five may) known]
    simp only [State.groupValues_answeredAt_ok]
  case clearBarred => rw [exec_counterReadClear_of_hands h, State.takeCounterRead_refused s (.inr barred)]

end Sys2Proof.Machine

/-! PROOFS. What an operation keeps of the invariants: the concerns, what of the state they look at, and the named updates
of the state (for O54 to O60). -/

namespace Sys2Proof.Machine

/-! ## The concerns -/

/-- No jet of the lane while the inhibit is asserted or the pump is lost, and a TRAVERSE released while it is TRAVERSING. -/
def State.JetSafe (s : State) (L : Lane) : Prop :=
  (s.inhibit = true ∨ s.monitor.lost = true → (s.laneState L).jetting = false) ∧
    (s.laneState L = .traversing → ∃ e, (s.lane L).seq.released = .segment e ∧ Segment.isCut e.seg = false)

/-- The lane holds the grant while it is in PIERCING. -/
def State.Granted (s : State) (L : Lane) : Prop :=
  ∀ phase, s.laneState L = .piercing phase → ∃ h, s.arbiter.holder = some h ∧ h.lane = L

/-- A count that rises or stays, and passes the largest value of a counter only where it was above it before. -/
def Rises (a b : Nat) : Prop := a ≤ counterMax → a ≤ b ∧ b ≤ counterMax

/-- Counters of which each rises or stays. -/
def Raised (old new : List Nat) : Prop := List.Forall₂ Rises old new

/-- No counter has fallen since `base`, and none has passed its largest value. -/
def State.CountsFrom (base s : State) : Prop :=
  ∀ group ≤ 5, Raised (base.groupValues group) (s.groupValues group)

/-- The invariants of the part, those that speak of a lane taken lane by lane, so that an operation that breaks one of
them for the time being can be said to keep all the others. -/
inductive Concern where
  | store
  | setpoint
  | samples
  | counters (base : State)
  | jets (L : Lane)
  | grant (L : Lane)
  | waits

/-- The concern is met. -/
def Concern.Holds (s : State) : Concern → Prop
  | .store => StoreWithin s
  | .setpoint => SetpointWithin s
  | .samples => SamplesWithin s
  | .counters base => base.CountsFrom s
  | .jets L => s.JetSafe L
  | .grant L => s.Granted L
  | .waits => WaitsInOrder s

/-- Every concern outside `off` that `s` meets is met by `t`. -/
structure Keeps (off : Set Concern) (s t : State) : Prop where
  holds : ∀ c ∉ off, c.Holds s → c.Holds t

namespace Keeps

variable {off : Set Concern} {s t u : State}

theorem refl (off : Set Concern) (s : State) : Keeps off s s := ⟨fun _ _ h => h⟩

theorem trans (h : Keeps off s t) (k : Keeps off t u) : Keeps off s u :=
  ⟨fun c hc holds => k.holds c hc (h.holds c hc holds)⟩

theorem mono {off' : Set Concern} (h : Keeps off s t) (sub : off ⊆ off') : Keeps off' s t :=
  ⟨fun c hc => h.holds c fun hc' => hc (sub hc')⟩

/-- What was left out is met after all. -/
theorem close {c : Concern} (h : Keeps (insert c off) s t) (rest : c ∉ off → c.Holds s → c.Holds t) :
    Keeps off s t where
  holds d hd holds := by
    by_cases same : d = c
    · subst same
      exact rest hd holds
    · exact h.holds d (fun mem => (Set.mem_insert_iff.mp mem).elim same hd) holds

/-- Of a concern that is looked after it can be taken that `s` meets it. -/
theorem given (c : Concern) (h : ∀ off', off ⊆ off' → (c ∉ off' → c.Holds s) → Keeps off' s t) : Keeps off s t := by
  by_cases holds : c.Holds s
  · exact h off subset_rfl fun _ => holds
  · exact (h (insert c off) (Set.subset_insert c off) fun watch => absurd (Set.mem_insert c off) watch).close
      fun _ holds' => absurd holds' holds

theorem all (h : Keeps ∅ s t) (c : Concern) (holds : c.Holds s) : c.Holds t :=
  h.holds c (Set.notMem_empty c) holds

end Keeps

theorem jetsSafe_iff (s : State) : JetsSafe s ↔ ∀ L, s.JetSafe L :=
  ⟨fun h L => ⟨fun w => h.withheld w L, h.traverse L⟩, fun h => ⟨fun w L => (h L).1 w, fun L => (h L).2⟩⟩

theorem grantHeld_iff (s : State) : GrantHeld s ↔ ∀ L, s.Granted L := Iff.rfl

/-! ## Counters that rise -/

theorem Rises.refl (a : Nat) : Rises a a := fun h => ⟨le_rfl, h⟩

theorem Rises.trans {a b c : Nat} (h : Rises a b) (k : Rises b c) : Rises a c := fun low => by
  obtain ⟨ab, top⟩ := h low
  obtain ⟨bc, top'⟩ := k top
  exact ⟨ab.trans bc, top'⟩

theorem rises_countUp (amount count : Nat) : Rises count (countUp amount count) := fun h =>
  ⟨le_min h (Nat.le_add_right ..), min_le_left ..⟩

theorem Raised.refl (values : List Nat) : Raised values values := List.forall₂_same.mpr fun a _ => Rises.refl a

theorem Raised.trans {old mid new : List Nat} (h : Raised old mid) (k : Raised mid new) : Raised old new := by
  induction h generalizing new with
  | nil => exact k
  | cons rises _ ih =>
    obtain _ | ⟨rises', rest⟩ := k
    exact .cons (rises.trans rises') (ih rest)

/-- Counters within their largest values that rise are within them afterwards, and none of them falls. -/
theorem Raised.within {old new : List Nat} (h : Raised old new) (within : ∀ n ∈ old, n ≤ counterMax) :
    (∀ n ∈ new, n ≤ counterMax) ∧ List.Forall₂ (· ≤ ·) old new := by
  induction h with
  | nil => exact ⟨nofun, .nil⟩
  | cons rises _ ih =>
    obtain ⟨first, rest⟩ := List.forall_mem_cons.mp within
    obtain ⟨below, top⟩ := rises first
    exact ⟨List.forall_mem_cons.mpr ⟨top, (ih rest).1⟩, .cons below (ih rest).2⟩

theorem State.countersWithin_iff (s : State) :
    CountersWithin s ↔ ∀ group ≤ 5, ∀ n ∈ s.groupValues group, n ≤ counterMax := by
  constructor
  · intro h group known n mem
    refine h n ?_
    simp only [State.counters, List.mem_append]
    interval_cases group <;> simp only [mem, true_or, or_true]
  · intro h n mem
    simp only [State.counters, List.mem_append, or_assoc] at mem
    obtain mem | mem | mem | mem | mem | mem := mem
    · exact h 0 (by decide) n mem
    · exact h 1 (by decide) n mem
    · exact h 2 (by decide) n mem
    · exact h 3 (by decide) n mem
    · exact h 4 (by decide) n mem
    · exact h 5 (by decide) n mem

/-! ## What the invariants look at -/

/-- What the invariants look at in a lane. -/
structure LaneView where
  state : LaneState
  nextPending : Bool
  released : Released
  repierceFlag : Bool
  repierceKind : Option PierceKind
  queue : LaneQueue
  fifo : List Record

/-- What the invariants look at in a lane. -/
def LaneUnit.view (u : LaneUnit) : LaneView :=
  { state := u.seq.state, nextPending := u.seq.nextPending, released := u.seq.released
    repierceFlag := u.seq.repierceFlag, repierceKind := u.seq.repierceKind, queue := u.queue, fifo := u.fifo }

/-- What the invariants, the counters aside, look at. -/
structure View where
  config : ConfigStore
  mirror : Bool
  inhibit : Bool
  lane : Lane → LaneView
  holder : Option Holder
  target : Nat
  waiting : List (Lane × Nat)
  ramped : Nat
  history : List Nat
  filtered : Nat
  lost : Bool
  locked : Bool
  settling : Bool
  window : List Nat
  alarm : Bool

/-- What the invariants, the counters aside, look at in a state: of an entry of the pierce queue the lane and the pressure,
and of the settle timer whether it runs. -/
def State.view (s : State) : View :=
  { config := s.config, mirror := s.mirror, inhibit := s.inhibit, lane := fun L => (s.lane L).view
    holder := s.arbiter.holder, target := s.arbiter.target
    waiting := s.arbiter.queue.map fun e => (e.lane, e.pressure)
    ramped := s.monitor.ramped, history := s.monitor.history, filtered := s.monitor.filtered, lost := s.monitor.lost
    locked := s.monitor.locked, settling := s.monitor.settleTimer.isSome, window := s.monitor.window
    alarm := s.monitor.alarm }

section
variable {s t : State} (h : t.view = s.view)
include h

theorem State.view_config : t.config = s.config := congrArg View.config h
theorem State.view_mirror : t.mirror = s.mirror := congrArg View.mirror h
theorem State.view_inhibit : t.inhibit = s.inhibit := congrArg View.inhibit h
theorem State.view_lane (L : Lane) : (t.lane L).view = (s.lane L).view := congrArg (fun v => View.lane v L) h
theorem State.view_holder : t.arbiter.holder = s.arbiter.holder := congrArg View.holder h
theorem State.view_target : t.arbiter.target = s.arbiter.target := congrArg View.target h
theorem State.view_waiting :
    (t.arbiter.queue.map fun e => (e.lane, e.pressure)) = s.arbiter.queue.map fun e => (e.lane, e.pressure) :=
  congrArg View.waiting h
theorem State.view_lost : t.monitor.lost = s.monitor.lost := congrArg View.lost h
theorem State.view_laneState (L : Lane) : t.laneState L = s.laneState L :=
  congrArg LaneView.state (State.view_lane h L)
theorem State.view_queue (L : Lane) : (t.lane L).queue = (s.lane L).queue :=
  congrArg LaneView.queue (State.view_lane h L)
theorem State.view_fifo (L : Lane) : (t.lane L).fifo = (s.lane L).fifo :=
  congrArg LaneView.fifo (State.view_lane h L)
theorem State.view_queueRegion (L : Lane) : t.queueRegion L = s.queueRegion L := by
  cases L <;> simp only [State.queueRegion, State.view_config h]
theorem State.view_fifoRegion (L : Lane) : t.fifoRegion L = s.fifoRegion L := by
  cases L <;> simp only [State.fifoRegion, State.view_config h]

end

/-- The lane has a NEXT pending in READY and a head that calls for a pierce: what the pierce queue asks of the lanes that
wait in it (R66, R95). -/
def State.CallsPierce (s : State) (L : Lane) : Prop :=
  s.laneState L = .ready ∧ (s.lane L).seq.nextPending = true ∧ s.headToPierce L

theorem State.callsPierce_congr {s t : State} {L : Lane} (h : (t.lane L).view = (s.lane L).view) :
    t.CallsPierce L ↔ s.CallsPierce L := by
  have state : (t.lane L).seq.state = (s.lane L).seq.state := congrArg LaneView.state h
  have pending : (t.lane L).seq.nextPending = (s.lane L).seq.nextPending := congrArg LaneView.nextPending h
  have flag : (t.lane L).seq.repierceFlag = (s.lane L).seq.repierceFlag := congrArg LaneView.repierceFlag h
  have kind : (t.lane L).seq.repierceKind = (s.lane L).seq.repierceKind := congrArg LaneView.repierceKind h
  have queue : (t.lane L).queue = (s.lane L).queue := congrArg LaneView.queue h
  simp only [State.CallsPierce, State.headToPierce, State.laneState, State.queueHead, state, pending, flag, kind, queue]

theorem WaitsInOrder.calls {s : State} (h : WaitsInOrder s) {e : PierceEntry} (mem : e ∈ s.arbiter.queue) :
    s.CallsPierce e.lane := h.waiting e mem

/-- The lanes that wait in the pierce queue. -/
theorem State.view_waits {s t : State} (h : t.view = s.view) :
    t.arbiter.queue.map PierceEntry.lane = s.arbiter.queue.map PierceEntry.lane := by
  have lanes := congrArg (List.map Prod.fst) (State.view_waiting h)
  simpa only [List.map_map, Function.comp_def] using lanes

/-- The pierce queue is in order, said of the lanes that wait. -/
theorem waitsInOrder_iff (s : State) :
    WaitsInOrder s ↔
      ((∀ L ∈ s.arbiter.queue.map PierceEntry.lane, s.CallsPierce L) ∧
        (s.arbiter.queue.map PierceEntry.lane).Nodup) ∧
        (s.mirror = true ↔ s.laneState .B = .mirrored) ∧ s.laneState .A ≠ .mirrored := by
  rw [List.forall_mem_map]
  exact ⟨fun h => ⟨⟨h.waiting, h.once⟩, h.mirror, h.leader⟩, fun h => ⟨h.1.1, h.1.2, h.2.1, h.2.2⟩⟩

theorem StoreWithin.of_view {s t : State} (holds : StoreWithin s) (view : t.view = s.view) : StoreWithin t := by
  obtain ⟨queue, fifo, room⟩ := holds
  refine ⟨fun L => ?_, fun L => ?_, fun L => ?_⟩
  · rw [State.view_queueRegion view, State.view_queue view]
    exact queue L
  · rw [State.view_fifoRegion view, State.view_fifo view]
    exact fifo L
  · rw [State.view_fifoRegion view]
    exact room L

theorem SetpointWithin.of_view {s t : State} (holds : SetpointWithin s) (view : t.view = s.view) :
    SetpointWithin t := by
  obtain ⟨config, target, ramped, holder, queue⟩ := holds
  have ramped' : t.monitor.ramped = s.monitor.ramped := congrArg View.ramped view
  have pressures := congrArg (List.map Prod.snd) (State.view_waiting view)
  simp only [List.map_map, Function.comp_def] at pressures
  refine ⟨State.view_config view ▸ config, State.view_target view ▸ target, ramped' ▸ ramped,
    State.view_holder view ▸ holder, ?_⟩
  have bounded : ∀ p ∈ s.arbiter.queue.map PierceEntry.pressure, p ≤ pressureMax := List.forall_mem_map.mpr queue
  rw [← pressures] at bounded
  exact List.forall_mem_map.mp bounded

theorem SamplesWithin.of_view {s t : State} (holds : SamplesWithin s) (view : t.view = s.view) : SamplesWithin t := by
  obtain ⟨history, samples, filtered, window, lost⟩ := holds
  have history' : t.monitor.history = s.monitor.history := congrArg View.history view
  have window' : t.monitor.window = s.monitor.window := congrArg View.window view
  have filtered' : t.monitor.filtered = s.monitor.filtered := congrArg View.filtered view
  have alarm' : t.monitor.alarm = s.monitor.alarm := congrArg View.alarm view
  have locked' : t.monitor.locked = s.monitor.locked := congrArg View.locked view
  have settling' : t.monitor.settleTimer.isSome = s.monitor.settleTimer.isSome := congrArg View.settling view
  refine ⟨history' ▸ history, history' ▸ samples, by rw [filtered', history', filtered], window' ▸ window,
    fun isLost => ?_⟩
  rw [State.view_lost view] at isLost
  obtain ⟨noHistory, noWindow, noAlarm, unlocked, unsettled⟩ := lost isLost
  rw [unsettled] at settling'
  exact ⟨history'.trans noHistory, window'.trans noWindow, alarm'.trans noAlarm, locked'.trans unlocked,
    Option.not_isSome_iff_eq_none.mp (by rw [settling']; decide)⟩

theorem State.JetSafe.of_view {s t : State} {L : Lane} (holds : s.JetSafe L) (view : t.view = s.view) :
    t.JetSafe L := by
  have released : (t.lane L).seq.released = (s.lane L).seq.released :=
    congrArg LaneView.released (State.view_lane view L)
  unfold State.JetSafe
  rwa [State.view_laneState view, State.view_inhibit view, State.view_lost view, released]

theorem State.Granted.of_view {s t : State} {L : Lane} (holds : s.Granted L) (view : t.view = s.view) :
    t.Granted L := by
  unfold State.Granted
  rwa [State.view_laneState view, State.view_holder view]

theorem WaitsInOrder.of_view {s t : State} (holds : WaitsInOrder s) (view : t.view = s.view) : WaitsInOrder t := by
  obtain ⟨⟨calls, once⟩, mode⟩ := (waitsInOrder_iff s).mp holds
  refine (waitsInOrder_iff t).mpr ⟨⟨fun L mem => ?_, ?_⟩, ?_⟩
  · rw [State.view_waits view] at mem
    exact (State.callsPierce_congr (State.view_lane view L)).mpr (calls L mem)
  · rwa [State.view_waits view]
  · rwa [State.view_mirror view, State.view_laneState view, State.view_laneState view]

/-- An operation after which the view is as it was keeps every concern but the counters; those it keeps if none falls. -/
theorem Keeps.of_view {off : Set Concern} {s t : State} (view : t.view = s.view)
    (raised : ∀ group ≤ 5, Raised (s.groupValues group) (t.groupValues group)) : Keeps off s t := by
  refine ⟨fun c _ holds => ?_⟩
  cases c with
  | store => exact StoreWithin.of_view holds view
  | setpoint => exact SetpointWithin.of_view holds view
  | samples => exact SamplesWithin.of_view holds view
  | counters base => exact fun group known => (holds group known).trans (raised group known)
  | jets L => exact State.JetSafe.of_view holds view
  | grant L => exact State.Granted.of_view holds view
  | waits => exact WaitsInOrder.of_view holds view

/-- An operation after which the view is as it was, and which counts nothing. -/
theorem Keeps.of_view_of_counts {off : Set Concern} {s t : State} (view : t.view = s.view)
    (counts : ∀ group, t.groupValues group = s.groupValues group) : Keeps off s t :=
  .of_view view fun group _ => counts group ▸ Raised.refl _

end Sys2Proof.Machine

/-! PROOFS. What the named updates of the state and the shared operations on ports, counters, metering and records keep of the
invariants. -/

namespace Sys2Proof.Machine

/-! ## Counting -/

theorem State.groupValues_modLane (s : State) (L : Lane) (f : LaneUnit → LaneUnit) (group : Nat) :
    (s.modLane L f).groupValues group =
      if group = laneGroup L then (f (s.lane L)).counters.values else s.groupValues group := by
  match group with
  | 0 | 1 | 2 | 3 | 4 | _ + 5 => cases L <;> rfl

theorem State.groupValues_laneGroup (s : State) (L : Lane) :
    s.groupValues (laneGroup L) = (s.lane L).counters.values := by cases L <;> rfl

theorem State.raised_modLane {s : State} {L : Lane} {f : LaneUnit → LaneUnit}
    (counts : Raised (s.lane L).counters.values (f (s.lane L)).counters.values) (group : Nat) :
    Raised (s.groupValues group) ((s.modLane L f).groupValues group) := by
  rw [State.groupValues_modLane]
  split
  case isTrue own => rwa [own, State.groupValues_laneGroup]
  case isFalse => exact Raised.refl _

theorem State.raised_modPort {s : State} {p : Port} {f : PortUnit → PortUnit}
    (counts : Raised (s.port p).counters.values (f (s.port p)).counters.values) (group : Nat) :
    Raised (s.groupValues group) ((s.modPort p f).groupValues group) := by
  rw [State.groupValues_modPort]
  split
  case isTrue own => rwa [own, State.groupValues_portGroup]
  case isFalse => exact Raised.refl _

section
variable (c : LaneCounters)

theorem LaneCounters.raised_addSegmentsDone : Raised c.values c.addSegmentsDone.values := by
  simp [Raised, LaneCounters.values, LaneCounters.addSegmentsDone, Rises.refl, rises_countUp]
theorem LaneCounters.raised_addEndedOther (n : Nat) : Raised c.values (c.addEndedOther n).values := by
  simp [Raised, LaneCounters.values, LaneCounters.addEndedOther, Rises.refl, rises_countUp]
theorem LaneCounters.raised_addPierce : Raised c.values c.addPierce.values := by
  simp [Raised, LaneCounters.values, LaneCounters.addPierce, Rises.refl, rises_countUp]
theorem LaneCounters.raised_addCutLength (n : Nat) : Raised c.values (c.addCutLength n).values := by
  simp [Raised, LaneCounters.values, LaneCounters.addCutLength, Rises.refl, rises_countUp]
theorem LaneCounters.raised_addValveOpenMs : Raised c.values c.addValveOpenMs.values := by
  simp [Raised, LaneCounters.values, LaneCounters.addValveOpenMs, Rises.refl, rises_countUp]
theorem LaneCounters.raised_addAbrasiveStep : Raised c.values c.addAbrasiveStep.values := by
  simp [Raised, LaneCounters.values, LaneCounters.addAbrasiveStep, Rises.refl, rises_countUp]
theorem LaneCounters.raised_addFault : Raised c.values c.addFault.values := by
  simp [Raised, LaneCounters.values, LaneCounters.addFault, Rises.refl, rises_countUp]
theorem LaneCounters.raised_addStarvation : Raised c.values c.addStarvation.values := by
  simp [Raised, LaneCounters.values, LaneCounters.addStarvation, Rises.refl, rises_countUp]
theorem LaneCounters.raised_addLost (n : Nat) : Raised c.values (c.addLost n).values := by
  simp [Raised, LaneCounters.values, LaneCounters.addLost, Rises.refl, rises_countUp]

end

section
variable (c : PortCounters)

theorem PortCounters.raised_addOk : Raised c.values c.addOk.values := by
  simp [Raised, PortCounters.values, PortCounters.addOk, Rises.refl, rises_countUp]
theorem PortCounters.raised_addCrc : Raised c.values c.addCrc.values := by
  simp [Raised, PortCounters.values, PortCounters.addCrc, Rises.refl, rises_countUp]
theorem PortCounters.raised_addGap : Raised c.values c.addGap.values := by
  simp [Raised, PortCounters.values, PortCounters.addGap, Rises.refl, rises_countUp]
theorem PortCounters.raised_addRefused : Raised c.values c.addRefused.values := by
  simp [Raised, PortCounters.values, PortCounters.addRefused, Rises.refl, rises_countUp]

end

section
variable (c : PumpCounters)

theorem PumpCounters.raised_addBad : Raised c.values c.addBad.values := by
  simp [Raised, PumpCounters.values, PumpCounters.addBad, Rises.refl, rises_countUp]
theorem PumpCounters.raised_addLoss : Raised c.values c.addLoss.values := by
  simp [Raised, PumpCounters.values, PumpCounters.addLoss, Rises.refl, rises_countUp]
theorem PumpCounters.raised_addRipple : Raised c.values c.addRipple.values := by
  simp [Raised, PumpCounters.values, PumpCounters.addRipple, Rises.refl, rises_countUp]

end

/-! ## The lanes that the pierce queue does not hold to their place -/

/-- The pierce queue does not hold the lane to what it is: it has no entry there, or calls for no pierce as it is. -/
def State.Unheld (s : State) (L : Lane) : Prop := L ∈ s.arbiter.queue.map PierceEntry.lane → ¬ s.CallsPierce L

theorem State.unheld_of_laneState {s : State} {L : Lane} (h : s.laneState L ≠ .ready) : s.Unheld L :=
  fun _ calls => h calls.1

theorem State.unheld_congr {s t : State} {L : Lane} (arbiter : t.arbiter = s.arbiter)
    (lane : (t.lane L).view = (s.lane L).view) : t.Unheld L ↔ s.Unheld L := by
  unfold State.Unheld
  rw [arbiter, State.callsPierce_congr lane]

/-! ## A change of a lane -/

theorem State.modLane_queueRegion (s : State) (L M : Lane) (f : LaneUnit → LaneUnit) :
    (s.modLane L f).queueRegion M = s.queueRegion M := by cases M <;> simp [State.queueRegion]
theorem State.modLane_fifoRegion (s : State) (L M : Lane) (f : LaneUnit → LaneUnit) :
    (s.modLane L f).fifoRegion M = s.fifoRegion M := by cases M <;> simp [State.fifoRegion]
theorem State.modLane_laneState_of_ne {s : State} {L M : Lane} (h : M ≠ L) (f : LaneUnit → LaneUnit) :
    (s.modLane L f).laneState M = s.laneState M := by
  rw [State.laneState, State.modLane_lane_eq, if_neg h, State.laneState]
theorem State.modLane_laneState (s : State) (L : Lane) (f : LaneUnit → LaneUnit) :
    (s.modLane L f).laneState L = (f (s.lane L)).seq.state := by rw [State.laneState, State.modLane_lane]

/-- A change of a lane keeps every concern if it keeps those that speak of the lane. -/
theorem Keeps.modLane {off : Set Concern} {s : State} {L : Lane} {f : LaneUnit → LaneUnit}
    (queue : RingWithin (s.queueRegion L) (s.lane L).queue → RingWithin (s.queueRegion L) (f (s.lane L)).queue)
    (fifo : 1 ≤ (s.fifoRegion L).size → (s.lane L).fifo.length ≤ (s.fifoRegion L).size →
      (f (s.lane L)).fifo.length ≤ (s.fifoRegion L).size)
    (counts : Raised (s.lane L).counters.values (f (s.lane L)).counters.values)
    (jets : .jets L ∉ off → s.JetSafe L → (s.modLane L f).JetSafe L)
    (grant : .grant L ∉ off → s.Granted L → (s.modLane L f).Granted L)
    (waits : .waits ∉ off → L ∈ s.arbiter.queue.map PierceEntry.lane → s.CallsPierce L →
      (s.modLane L f).CallsPierce L)
    (mode : .waits ∉ off → ((f (s.lane L)).seq.state = .mirrored ↔ s.laneState L = .mirrored)) :
    Keeps off s (s.modLane L f) := by
  refine ⟨fun c hc holds => ?_⟩
  cases c with
  | store =>
    obtain ⟨queues, fifos, room⟩ := holds
    refine ⟨fun M => ?_, fun M => ?_, fun M => ?_⟩
    · rw [State.modLane_queueRegion, State.modLane_lane_eq]
      split
      case isTrue own => exact own ▸ queue (queues L)
      case isFalse => exact queues M
    · rw [State.modLane_fifoRegion, State.modLane_lane_eq]
      split
      case isTrue own => exact own ▸ fifo (room L) (fifos L)
      case isFalse => exact fifos M
    · rw [State.modLane_fifoRegion]
      exact room M
  | setpoint =>
    obtain ⟨config, target, ramped, holder, waiting⟩ := holds
    exact ⟨by rwa [State.modLane_config], by rwa [State.modLane_arbiter], by rwa [State.modLane_monitor],
      by rwa [State.modLane_arbiter], by rwa [State.modLane_arbiter]⟩
  | samples =>
    obtain ⟨history, samples, filtered, window, lost⟩ := holds
    exact ⟨by rwa [State.modLane_monitor], by rwa [State.modLane_monitor], by rwa [State.modLane_monitor],
      by rwa [State.modLane_monitor], by rwa [State.modLane_monitor]⟩
  | counters base => exact fun group known => (holds group known).trans (State.raised_modLane counts group)
  | jets M =>
    by_cases own : M = L
    · subst own
      exact jets hc holds
    · change s.JetSafe M at holds
      change State.JetSafe _ M
      unfold State.JetSafe at holds ⊢
      rwa [State.modLane_laneState_of_ne own, State.modLane_inhibit, State.modLane_monitor, State.modLane_lane_eq,
        if_neg own]
  | grant M =>
    by_cases own : M = L
    · subst own
      exact grant hc holds
    · change s.Granted M at holds
      change State.Granted _ M
      unfold State.Granted at holds ⊢
      rwa [State.modLane_laneState_of_ne own, State.modLane_arbiter]
  | waits =>
    obtain ⟨⟨calls, once⟩, mirror, leader⟩ := (waitsInOrder_iff s).mp holds
    have mode' (M : Lane) : (s.modLane L f).laneState M = .mirrored ↔ s.laneState M = .mirrored := by
      by_cases own : M = L
      · subst own
        rw [State.modLane_laneState]
        exact mode hc
      · rw [State.modLane_laneState_of_ne own]
    refine (waitsInOrder_iff _).mpr ⟨⟨fun M mem => ?_, ?_⟩, ?_, ?_⟩
    · rw [State.modLane_arbiter] at mem
      by_cases own : M = L
      · subst own
        exact waits hc mem (calls M mem)
      · exact (State.callsPierce_congr (by rw [State.modLane_lane_eq, if_neg own])).mpr (calls M mem)
    · rwa [State.modLane_arbiter]
    · rwa [State.modLane_mirror, mode' .B]
    · rwa [ne_eq, mode' .A]

/-- A change of a lane that leaves alone what the invariants look at there. -/
theorem State.modLane_view {s : State} {L : Lane} {f : LaneUnit → LaneUnit}
    (view : (f (s.lane L)).view = (s.lane L).view) : (s.modLane L f).view = s.view := by
  have lanes (M : Lane) : ((s.modLane L f).lane M).view = (s.lane M).view := by
    rw [State.modLane_lane_eq]
    split
    case isTrue own => rw [view, own]
    case isFalse => rfl
  simp only [State.view, State.modLane_config, State.modLane_mirror, State.modLane_inhibit, State.modLane_arbiter,
    State.modLane_monitor, lanes]

/-- A change of a lane that leaves alone what the invariants look at, and lowers no counter. -/
theorem Keeps.modLane_of_view {off : Set Concern} {s : State} {L : Lane} {f : LaneUnit → LaneUnit}
    (view : (f (s.lane L)).view = (s.lane L).view)
    (counts : Raised (s.lane L).counters.values (f (s.lane L)).counters.values) : Keeps off s (s.modLane L f) := by
  exact .of_view (State.modLane_view view) fun group _ => State.raised_modLane counts group

section
variable {off : Set Concern} (s : State)

theorem State.keeps_countLane (L : Lane) {f : LaneCounters → LaneCounters}
    (counts : Raised (s.lane L).counters.values (f (s.lane L).counters).values) : Keeps off s (s.countLane L f) :=
  .modLane_of_view rfl counts

theorem State.keeps_modGov (L : Lane) (f : Governor → Governor) : Keeps off s (s.modGov L f) :=
  .modLane_of_view rfl (.refl _)
theorem State.keeps_modGen (L : Lane) (f : Generator → Generator) : Keeps off s (s.modGen L f) :=
  .modLane_of_view rfl (.refl _)
theorem State.keeps_modMon (L : Lane) (f : FlowMonitor → FlowMonitor) : Keeps off s (s.modMon L f) :=
  .modLane_of_view rfl (.refl _)
theorem State.keeps_modFilter (L : Lane) (f : FlowFilter → FlowFilter) : Keeps off s (s.modFilter L f) :=
  .modLane_of_view rfl (.refl _)

end

/-! ## Ports, frames and events -/

section
variable {off : Set Concern} (s : State)

theorem State.modPort_view (p : Port) (f : PortUnit → PortUnit) : (s.modPort p f).view = s.view := by
  simp only [State.view, State.modPort_config, State.modPort_mirror, State.modPort_inhibit, State.modPort_lane,
    State.modPort_arbiter, State.modPort_monitor]

theorem State.keeps_modPort {p : Port} {f : PortUnit → PortUnit}
    (counts : Raised (s.port p).counters.values (f (s.port p)).counters.values) : Keeps off s (s.modPort p f) :=
  .of_view (s.modPort_view p f) fun group _ => State.raised_modPort counts group

theorem State.keeps_modPort_of_counters (p : Port) (f : PortUnit → PortUnit)
    (counts : (f (s.port p)).counters = (s.port p).counters) : Keeps off s (s.modPort p f) :=
  s.keeps_modPort (counts ▸ Raised.refl _)

theorem State.keeps_modEvents (p : Port) (f : EventUnit → EventUnit) : Keeps off s (s.modEvents p f) :=
  s.keeps_modPort_of_counters p _ rfl

theorem State.keeps_modTx (l : Link) (f : List (List Byte) → List (List Byte)) : Keeps off s (s.modTx l f) := by
  cases l with
  | A => exact s.keeps_modPort_of_counters .A (fun u => { u with tx := f u.tx }) rfl
  | B => exact s.keeps_modPort_of_counters .B (fun u => { u with tx := f u.tx }) rfl
  | C => exact s.keeps_modPort_of_counters .C (fun u => { u with tx := f u.tx }) rfl
  | pump => exact .of_view_of_counts rfl fun _ => rfl

theorem State.keeps_setRx (l : Link) (r : Receiver) : Keeps off s (s.setRx l r) := by
  cases l with
  | A => exact s.keeps_modPort_of_counters .A (fun u => { u with rx := r }) rfl
  | B => exact s.keeps_modPort_of_counters .B (fun u => { u with rx := r }) rfl
  | C => exact s.keeps_modPort_of_counters .C (fun u => { u with rx := r }) rfl
  | pump => exact .of_view_of_counts rfl fun _ => rfl

theorem State.keeps_countPump {f : PumpCounters → PumpCounters}
    (counts : Raised s.pumpCounters.values (f s.pumpCounters).values) : Keeps off s (s.countPump f) := by
  refine .of_view rfl fun group known => ?_
  rw [State.groupValues_countPump s f known]
  split
  case isTrue own => exact own ▸ counts
  case isFalse => exact Raised.refl _

theorem State.keeps_send (l : Link) (kind : Nat) (payload : List Byte) : Keeps off s (s.send l kind payload) :=
  s.keeps_modTx l _

theorem State.keeps_reply (p : Port) (kind : Nat) (result : Result) (body : List Byte) :
    Keeps off s (s.reply p kind result body) := by
  unfold State.reply
  dsimp only
  split
  · exact s.keeps_send ..
  · exact (s.keeps_send ..).trans (State.keeps_modPort _ (PortCounters.raised_addRefused _))

theorem State.keeps_refuse (p : Port) (kind : Nat) (result : Result) : Keeps off s (s.refuse p kind result) :=
  s.keeps_reply ..

theorem State.keeps_raiseBit (p : Port) (n : Nat) : Keeps off s (s.raiseBit p n) := s.keeps_modEvents p _

theorem State.keeps_raiseCell (e : CellEvent) : Keeps off s (s.raiseCell e) := s.keeps_raiseBit ..

theorem State.keeps_raiseHead (L : Lane) (e : HeadEvent) : Keeps off s (s.raiseHead L e) := by
  unfold State.raiseHead
  dsimp only
  split
  · exact (s.keeps_raiseBit ..).trans (State.keeps_raiseBit ..)
  · exact s.keeps_raiseBit ..

theorem State.keeps_raiseAll (head : HeadEvent) (cell : CellEvent) : Keeps off s (s.raiseAll head cell) :=
  ((s.keeps_raiseHead ..).trans (State.keeps_raiseHead ..)).trans (State.keeps_raiseCell ..)

end

/-! ## Metering -/

section
variable {off : Set Concern} (s : State)

/-- A change of a sequencer that leaves alone what the invariants look at. -/
theorem State.keeps_modSeq_of_view (L : Lane) {f : Sequencer → Sequencer}
    (view : ({ s.lane L with seq := f (s.lane L).seq } : LaneUnit).view = (s.lane L).view) :
    Keeps off s (s.modSeq L f) :=
  .modLane_of_view view (.refl _)

theorem Keeps.onMetering {f : State → Lane → State} (each : ∀ s L, Keeps off s (f s L)) (L : Lane) :
    Keeps off s (s.onMetering L f) := by
  cases L with
  | A =>
    simp only [State.onMetering]
    split
    · exact (each s .A).trans (each _ .B)
    · exact each s .A
  | B => exact each s .B

theorem State.keeps_emitStep (L : Lane) : Keeps off s (s.emitStep L) := by
  unfold State.emitStep
  dsimp only
  have counted : Keeps off s (s.countLane L .addAbrasiveStep) :=
    s.keeps_countLane L (LaneCounters.raised_addAbrasiveStep _)
  split
  · exact counted
  · exact counted.trans (State.keeps_modSeq_of_view _ L rfl)

theorem State.keeps_beginSlot (L : Lane) : Keeps off s (s.beginSlot L) := by
  unfold State.beginSlot
  dsimp only
  split
  · exact (s.keeps_modGen ..).trans (State.keeps_emitStep ..)
  · exact s.keeps_modGen ..

theorem State.keeps_startUnit (n : Nat) (L : Lane) : Keeps off s (s.startUnit n L) := by
  unfold State.startUnit
  split
  · exact s.keeps_modGen ..
  · exact ((s.keeps_modGen ..).trans (State.keeps_modMon ..)).trans (State.keeps_beginSlot ..)

theorem State.keeps_stopUnit (L : Lane) : Keeps off s (s.stopUnit L) := by
  unfold State.stopUnit
  split
  · exact (s.keeps_modGen ..).trans (State.keeps_modMon ..)
  · exact .refl off s

theorem State.keeps_meterStart (L : Lane) (n : Nat) : Keeps off s (s.meterStart L n) :=
  Keeps.onMetering s (fun s L => s.keeps_startUnit n L) L
theorem State.keeps_meterLevel (L : Lane) (n : Nat) : Keeps off s (s.meterLevel L n) :=
  Keeps.onMetering s (fun s L => s.keeps_modGen L _) L
theorem State.keeps_meterStop (L : Lane) : Keeps off s (s.meterStop L) :=
  Keeps.onMetering s (fun s L => s.keeps_stopUnit L) L

theorem State.keeps_advanceSlot (L : Lane) : Keeps off s (s.advanceSlot L) :=
  (s.keeps_modGen ..).trans (State.keeps_beginSlot ..)

theorem State.keeps_slotExpiry (L : Lane) : Keeps off s (s.slotExpiry L) := by
  unfold State.slotExpiry
  dsimp only
  split
  · exact Keeps.onMetering s (fun s L => s.keeps_advanceSlot L) _
  · exact .refl off s

theorem State.keeps_acceptEdge (L : Lane) : Keeps off s (s.acceptEdge L) := by
  unfold State.acceptEdge
  dsimp only
  split
  · exact (s.keeps_modFilter ..).trans (State.keeps_modMon ..)
  · exact s.keeps_modFilter ..

theorem State.keeps_filterExpiry (L : Lane) : Keeps off s (s.filterExpiry L) := by
  unfold State.filterExpiry
  split
  · exact s.keeps_acceptEdge L
  · exact .refl off s

theorem State.keeps_filterChange (L : Lane) : Keeps off s (s.filterChange L) := by
  unfold State.filterChange
  dsimp only
  split
  · exact s.keeps_modFilter ..
  · split
    · exact s.keeps_acceptEdge L
    · exact s.keeps_modFilter ..

/-- Held at rest the part takes nothing (R194). -/
theorem State.keeps_unlessHeld {event : State → State} (h : s.resetInput = false → Keeps off s (event s)) :
    Keeps off s (s.unlessHeld event) := by
  unfold State.unlessHeld
  split
  case isTrue => exact .refl off s
  case isFalse live => exact h (Bool.eq_false_iff.mpr live)

theorem State.keeps_flowInputChange (L : Lane) (level : Level) : Keeps off s (s.flowInputChange L level) := by
  unfold State.flowInputChange
  split
  · exact .refl off s
  · exact (s.keeps_modFilter ..).trans (State.keeps_unlessHeld _ fun _ => State.keeps_filterChange ..)

end

/-! ## Records -/

section
variable {off : Set Concern} (s : State)

/-- A change of the records of a completion FIFO alone, which leaves them within its region. -/
theorem State.keeps_modFifo (L : Lane) (f : List Record → List Record)
    (fifo : 1 ≤ (s.fifoRegion L).size → (s.lane L).fifo.length ≤ (s.fifoRegion L).size →
      (f (s.lane L).fifo).length ≤ (s.fifoRegion L).size) :
    Keeps off s (s.modLane L fun u => { u with fifo := f u.fifo }) := by
  refine .modLane id fifo (.refl _) (fun _ h => ?_) (fun _ h => ?_) (fun _ _ h => ?_) fun _ => Iff.rfl
  · unfold State.JetSafe at *
    rwa [State.modLane_laneState, State.modLane_inhibit, State.modLane_monitor, State.modLane_lane]
  · unfold State.Granted at *
    rwa [State.modLane_laneState, State.modLane_arbiter]
  · unfold State.CallsPierce State.headToPierce State.queueHead at *
    rwa [State.modLane_laneState, State.modLane_lane]

theorem State.keeps_writeRecord (L : Lane) (r : Record) : Keeps off s (s.writeRecord L r) := by
  have lost (t : State) : Keeps off t ((t.countLane L (.addLost 1)).raiseHead L .completionLost) :=
    (t.keeps_countLane L (LaneCounters.raised_addLost _ 1)).trans (State.keeps_raiseHead ..)
  unfold State.writeRecord
  dsimp only
  split
  case isTrue => exact (s.keeps_modFifo L (fun _ => [r]) fun room _ => room).trans (State.keeps_raiseHead ..)
  case isFalse held =>
    split
    case isTrue room =>
      exact s.keeps_modFifo L (· ++ [r]) fun _ _ => List.length_append ▸ room
    case isFalse =>
      split
      · exact lost s
      · refine (s.keeps_modFifo L (fun records => records.tail ++ [r]) fun _ within => ?_).trans (lost _)
        have some? : 0 < (s.lane L).fifo.length := List.length_pos_iff.mpr held
        rw [List.length_append, List.length_tail, List.length_singleton]
        omega

theorem State.keeps_recordReleased (L : Lane) (outcome : RecordEnd) : Keeps off s (s.recordReleased L outcome) := by
  unfold State.recordReleased
  split
  · exact s.keeps_writeRecord ..
  · exact .refl off s

theorem State.keeps_takeComplRead (L : Lane) (n : Nat) : Keeps off s (s.takeComplRead L n) := by
  unfold State.takeComplRead
  split
  · exact s.keeps_refuse ..
  · split
    · exact s.keeps_refuse ..
    · refine (s.keeps_modFifo L (List.drop _) fun _ within => ?_).trans (State.keeps_reply ..)
      exact (List.drop_sublist ..).length_le.trans within

end

end Sys2Proof.Machine

/-! PROOFS. What the operations of the store, the monitor and the lane sequencer keep of the invariants. -/

namespace Sys2Proof.Machine

/-! ## Operations that leave the sequencers, the arbiter or the monitor alone -/

section
variable (s : State)

@[simp] theorem State.send_lane (l : Link) (kind : Nat) (payload : List Byte) (M : Lane) :
    (s.send l kind payload).lane M = s.lane M := by simp [State.send]
@[simp] theorem State.send_arbiter (l : Link) (kind : Nat) (payload : List Byte) :
    (s.send l kind payload).arbiter = s.arbiter := by simp [State.send]
@[simp] theorem State.send_monitor (l : Link) (kind : Nat) (payload : List Byte) :
    (s.send l kind payload).monitor = s.monitor := by simp [State.send]
@[simp] theorem State.reply_lane (p : Port) (kind : Nat) (result : Result) (body : List Byte) (M : Lane) :
    (s.reply p kind result body).lane M = s.lane M := by unfold State.reply; split <;> simp
@[simp] theorem State.reply_arbiter (p : Port) (kind : Nat) (result : Result) (body : List Byte) :
    (s.reply p kind result body).arbiter = s.arbiter := by unfold State.reply; split <;> simp
@[simp] theorem State.reply_monitor (p : Port) (kind : Nat) (result : Result) (body : List Byte) :
    (s.reply p kind result body).monitor = s.monitor := by unfold State.reply; split <;> simp
@[simp] theorem State.raiseBit_lane (p : Port) (n : Nat) (M : Lane) : (s.raiseBit p n).lane M = s.lane M := by
  simp [State.raiseBit]
@[simp] theorem State.raiseBit_arbiter (p : Port) (n : Nat) : (s.raiseBit p n).arbiter = s.arbiter := by
  cases p <;> rfl
@[simp] theorem State.raiseBit_monitor (p : Port) (n : Nat) : (s.raiseBit p n).monitor = s.monitor := by
  cases p <;> rfl
@[simp] theorem State.raiseHead_lane (L : Lane) (e : HeadEvent) (M : Lane) :
    (s.raiseHead L e).lane M = s.lane M := by unfold State.raiseHead; split <;> simp
@[simp] theorem State.raiseHead_arbiter (L : Lane) (e : HeadEvent) : (s.raiseHead L e).arbiter = s.arbiter := by
  unfold State.raiseHead; split <;> simp
@[simp] theorem State.raiseHead_monitor (L : Lane) (e : HeadEvent) : (s.raiseHead L e).monitor = s.monitor := by
  unfold State.raiseHead; split <;> simp
@[simp] theorem State.raiseCell_lane (e : CellEvent) (M : Lane) : (s.raiseCell e).lane M = s.lane M := by
  simp [State.raiseCell]
@[simp] theorem State.raiseAll_lane (head : HeadEvent) (cell : CellEvent) (M : Lane) :
    (s.raiseAll head cell).lane M = s.lane M := by simp [State.raiseAll]

@[simp] theorem State.dequeue_seq (L M : Lane) : ((s.dequeue L).lane M).seq = (s.lane M).seq := by
  unfold State.dequeue; dsimp only; split <;> simp
@[simp] theorem State.dequeue_arbiter (L : Lane) : (s.dequeue L).arbiter = s.arbiter := by
  unfold State.dequeue; dsimp only; split <;> simp
@[simp] theorem State.dequeue_monitor (L : Lane) : (s.dequeue L).monitor = s.monitor := by
  unfold State.dequeue; dsimp only; split <;> simp
@[simp] theorem State.emptyQueue_seq (L M : Lane) : ((s.emptyQueue L).lane M).seq = (s.lane M).seq := by
  simp [State.emptyQueue]
@[simp] theorem State.emptyQueue_arbiter (L : Lane) : (s.emptyQueue L).arbiter = s.arbiter := by
  simp [State.emptyQueue]

@[simp] theorem State.modFifo_seq (L M : Lane) (f : LaneUnit → List Record) :
    ((s.modLane L fun u => { u with fifo := f u }).lane M).seq = (s.lane M).seq := by cases L <;> cases M <;> rfl
@[simp] theorem State.writeRecord_seq (L M : Lane) (r : Record) :
    ((s.writeRecord L r).lane M).seq = (s.lane M).seq := by
  unfold State.writeRecord; dsimp only; (repeat' split) <;> simp [State.modFifo_seq s L M fun _ => _]
@[simp] theorem State.writeRecord_arbiter (L : Lane) (r : Record) : (s.writeRecord L r).arbiter = s.arbiter := by
  unfold State.writeRecord; dsimp only; (repeat' split) <;> simp
@[simp] theorem State.writeRecord_monitor (L : Lane) (r : Record) : (s.writeRecord L r).monitor = s.monitor := by
  unfold State.writeRecord; dsimp only; (repeat' split) <;> simp
@[simp] theorem State.recordReleased_seq (L M : Lane) (outcome : RecordEnd) :
    ((s.recordReleased L outcome).lane M).seq = (s.lane M).seq := by unfold State.recordReleased; split <;> simp
@[simp] theorem State.recordReleased_arbiter (L : Lane) (outcome : RecordEnd) :
    (s.recordReleased L outcome).arbiter = s.arbiter := by unfold State.recordReleased; split <;> simp
@[simp] theorem State.recordReleased_monitor (L : Lane) (outcome : RecordEnd) :
    (s.recordReleased L outcome).monitor = s.monitor := by unfold State.recordReleased; split <;> simp

theorem State.emitStep_view (L : Lane) : (s.emitStep L).view = s.view := by
  unfold State.emitStep
  dsimp only
  split
  · exact State.modLane_view rfl
  · exact (State.modLane_view rfl).trans (State.modLane_view rfl)
theorem State.beginSlot_view (L : Lane) : (s.beginSlot L).view = s.view := by
  unfold State.beginSlot
  dsimp only
  split
  · exact (State.emitStep_view ..).trans (State.modLane_view rfl)
  · exact State.modLane_view rfl
theorem State.startUnit_view (n : Nat) (L : Lane) : (s.startUnit n L).view = s.view := by
  unfold State.startUnit
  split
  · exact State.modLane_view rfl
  · exact (State.beginSlot_view ..).trans ((State.modLane_view rfl).trans (State.modLane_view rfl))
theorem State.stopUnit_view (L : Lane) : (s.stopUnit L).view = s.view := by
  unfold State.stopUnit
  split
  · exact (State.modLane_view rfl).trans (State.modLane_view rfl)
  · rfl
theorem State.onMetering_view {f : State → Lane → State} (each : ∀ s L, (f s L).view = s.view) (L : Lane) :
    (s.onMetering L f).view = s.view := by
  cases L with
  | A =>
    simp only [State.onMetering]
    split
    · exact (each ..).trans (each ..)
    · exact each ..
  | B => exact each ..
theorem State.meterStart_view (L : Lane) (n : Nat) : (s.meterStart L n).view = s.view :=
  s.onMetering_view (fun s L => s.startUnit_view n L) L
theorem State.meterLevel_view (L : Lane) (n : Nat) : (s.meterLevel L n).view = s.view :=
  s.onMetering_view (fun _ _ => State.modLane_view rfl) L
theorem State.meterStop_view (L : Lane) : (s.meterStop L).view = s.view := s.onMetering_view State.stopUnit_view L

end

end Sys2Proof.Machine

/-! PROOFS. What the operations on the lane queues, the monitor, the target and the configuration keep of the invariants. -/

namespace Sys2Proof.Machine

/-! ## What a change of a lane does to the concerns of that lane -/

theorem State.jetSafe_congr {s t : State} {L : Lane} (seq : (t.lane L).seq = (s.lane L).seq)
    (inhibit : t.inhibit = s.inhibit) (lost : t.monitor.lost = s.monitor.lost) : t.JetSafe L ↔ s.JetSafe L := by
  simp only [State.JetSafe, State.laneState, seq, inhibit, lost]

theorem State.granted_congr {s t : State} {L : Lane} (seq : (t.lane L).seq = (s.lane L).seq)
    (holder : t.arbiter.holder = s.arbiter.holder) : t.Granted L ↔ s.Granted L := by
  simp only [State.Granted, State.laneState, seq, holder]

/-! ## Rings (R45) -/

theorem nextSlot_holds {region : Region} {slot : Nat} (h : Region.holds region slot) :
    Region.holds region (nextSlot region slot) := by
  unfold Region.holds nextSlot at *
  split <;> omega

/-- One place further on is the next slot. -/
theorem nextSlot_ringSlot {region : Region} (some? : 0 < region.size) (get k : Nat) :
    nextSlot region (ringSlot region get k) = ringSlot region get (k + 1) := by
  unfold nextSlot ringSlot
  rw [← Nat.add_assoc (get - region.start) k 1]
  generalize get - region.start + k = places
  have inside : places % region.size < region.size := Nat.mod_lt _ some?
  rw [← Nat.mod_add_mod places region.size 1]
  obtain last | more : places % region.size + 1 = region.size ∨ places % region.size + 1 < region.size := by omega
  · rw [last, Nat.mod_self, if_neg (by omega), Nat.add_zero]
  · rw [Nat.mod_eq_of_lt more, if_pos (by omega), Nat.add_assoc]

/-- Counted from the next slot, every place is one less. -/
theorem ringSlot_nextSlot {region : Region} {get : Nat} (h : Region.holds region get) (k : Nat) :
    ringSlot region (nextSlot region get) k = ringSlot region get (k + 1) := by
  unfold Region.holds at h
  unfold nextSlot ringSlot
  split
  · congr 2
    omega
  · have last : get - region.start + (k + 1) = k + region.size := by omega
    rw [last, Nat.add_mod_right, Nat.sub_self, Nat.zero_add]

theorem RingWithin.enqueue {region : Region} {q : LaneQueue} (h : RingWithin region q)
    (room : q.entries.length < region.size) (e : Entry) :
    RingWithin region { q with entries := q.entries ++ [e], put := nextSlot region q.put } where
  fill := by rw [List.length_append, List.length_singleton]; exact room
  get := h.get
  put := by
    rw [h.put, nextSlot_ringSlot (Nat.zero_lt_of_lt room), List.length_append, List.length_singleton]

theorem RingWithin.dequeue {region : Region} {q : LaneQueue} (h : RingWithin region q) (held : q.entries ≠ []) :
    RingWithin region { q with entries := q.entries.tail, get := nextSlot region q.get } where
  fill := (List.length_tail ▸ Nat.sub_le ..).trans h.fill
  get := nextSlot_holds h.get
  put := by
    have count : q.entries.tail.length + 1 = q.entries.length := by
      rw [List.length_tail, Nat.sub_add_cancel (List.length_pos_iff.mpr held)]
    rw [h.put, ringSlot_nextSlot h.get, count]

theorem ringWithin_emptied {region : Region} (some? : 0 < region.size) :
    RingWithin region (LaneQueue.emptied region) where
  fill := Nat.zero_le _
  get := ⟨le_rfl, Nat.lt_add_of_pos_right some?⟩
  put := by simp [LaneQueue.emptied, ringSlot]

theorem RingWithin.size_pos {region : Region} {q : LaneQueue} (h : RingWithin region q) : 0 < region.size := by
  obtain ⟨low, high⟩ := h.get
  omega

section
variable {off : Set Concern} (s : State)

/-- A change of a lane queue keeps every concern if the queue stays a ring and a head that calls for a pierce stays. -/
theorem State.keeps_modQueue (L : Lane) (f : LaneQueue → LaneQueue)
    (queue : RingWithin (s.queueRegion L) (s.lane L).queue → RingWithin (s.queueRegion L) (f (s.lane L).queue))
    (waits : .waits ∉ off → L ∈ s.arbiter.queue.map PierceEntry.lane → s.CallsPierce L →
      (s.modQueue L f).CallsPierce L) :
    Keeps off s (s.modQueue L f) :=
  .modLane queue (fun _ => id) (.refl _)
    (fun _ => (State.jetSafe_congr (s.modQueue_lane_seq L L f) (s.modQueue_inhibit L f) (by rw [State.modQueue,
      State.modLane_monitor])).mpr)
    (fun _ => (State.granted_congr (s.modQueue_lane_seq L L f) (by rw [State.modQueue,
      State.modLane_arbiter])).mpr)
    waits fun _ => Iff.rfl

/-- A head with the same segment calls for a pierce as the head before it did. -/
theorem State.CallsPierce.of_queueHead {s t : State} {L : Lane} (calls : s.CallsPierce L)
    (seq : (t.lane L).seq = (s.lane L).seq)
    (head : ∀ e, s.queueHead L = some e → ∃ e', t.queueHead L = some e' ∧ e'.seg = e.seg) : t.CallsPierce L := by
  obtain ⟨ready, pending, e, at_head, pierces⟩ := calls
  obtain ⟨e', at_head', same⟩ := head e at_head
  refine ⟨by rwa [State.laneState, seq], by rwa [seq], e', at_head', ?_⟩
  rwa [same, seq]

theorem State.keeps_enqueue {L : Lane} (room : s.fill L < (s.queueRegion L).size) (e : Entry) :
    Keeps off s (s.enqueue L e) := by
  refine s.keeps_modQueue L _ (fun ring => ring.enqueue room e) fun _ _ calls =>
    calls.of_queueHead (s.modQueue_lane_seq ..) fun head at_head => ⟨head, ?_, rfl⟩
  rw [State.queueHead] at at_head ⊢
  rw [State.modQueue_lane_queue, List.head?_append, at_head, Option.some_or]

theorem State.keeps_replaceTail {L : Lane} {tail e : Entry} (at_tail : s.queueTail L = some tail)
    (same : e.seg = tail.seg) : Keeps off s (s.replaceTail L e) := by
  have split_tail : (s.lane L).queue.entries = (s.lane L).queue.entries.dropLast ++ [tail] :=
    (List.dropLast_append_getLast? tail at_tail).symm
  refine s.keeps_modQueue L _ (fun ⟨fill, get, put⟩ => ?_) fun _ _ calls =>
    calls.of_queueHead (s.modQueue_lane_seq ..) fun head at_head => ?_
  · have count : ((s.lane L).queue.entries.dropLast ++ [e]).length = (s.lane L).queue.entries.length := by
      conv_rhs => rw [split_tail]
      simp only [List.length_append, List.length_singleton]
    exact ⟨count ▸ fill, get, count ▸ put⟩
  · rw [State.queueHead] at at_head ⊢
    rw [State.modQueue_lane_queue]
    rw [split_tail] at at_head
    cases rest : (s.lane L).queue.entries.dropLast with
    | nil =>
      rw [rest] at at_head
      obtain rfl := Option.some.inj at_head
      exact ⟨e, rfl, same⟩
    | cons first _ =>
      rw [rest] at at_head
      exact ⟨head, at_head, rfl⟩

theorem State.keeps_dequeue {L : Lane} {e : Entry} (at_head : s.queueHead L = some e)
    (unheld : .waits ∉ off → s.Unheld L) : Keeps off s (s.dequeue L) := by
  have held : (s.lane L).queue.entries ≠ [] := fun empty => by rw [State.queueHead, empty] at at_head; cases at_head
  have taken : Keeps off s (s.modQueue L fun q =>
      { q with entries := q.entries.tail, get := nextSlot (s.queueRegion L) q.get }) :=
    s.keeps_modQueue L _ (fun ring => ring.dequeue held) fun watch mem calls => absurd calls (unheld watch mem)
  unfold State.dequeue
  dsimp only
  split
  · exact taken.trans (State.keeps_raiseHead ..)
  · exact taken

theorem State.keeps_emptyQueue {L : Lane} (unheld : .waits ∉ off → s.Unheld L) : Keeps off s (s.emptyQueue L) :=
  s.keeps_modQueue L _ (fun ring => ringWithin_emptied ring.size_pos) fun watch mem calls =>
    absurd calls (unheld watch mem)

end

/-! ## The arbiter and the monitor -/

section
variable {off : Set Concern} (s : State)

/-- A change of the monitor alone keeps every concern if it keeps those of the samples, the setpoint and the jets. -/
theorem State.keeps_modMonitor (f : Monitor → Monitor)
    (ramped : s.arbiter.target ≤ pressureMax → s.monitor.ramped ≤ pressureMax → (f s.monitor).ramped ≤ pressureMax)
    (samples : .samples ∉ off → SamplesWithin s → SamplesWithin (s.modMonitor f))
    (jets : ∀ L, .jets L ∉ off → (f s.monitor).lost = true → s.monitor.lost = true) :
    Keeps off s (s.modMonitor f) := by
  refine ⟨fun c hc holds => ?_⟩
  cases c with
  | store => exact ⟨holds.queue, holds.fifo, holds.room⟩
  | setpoint => exact ⟨holds.config, holds.target, ramped holds.target holds.ramped, holds.holder, holds.queue⟩
  | samples => exact samples hc holds
  | counters base => exact holds
  | jets L => exact ⟨fun w => holds.1 (w.imp_right (jets L hc)), holds.2⟩
  | grant L => exact holds
  | waits => exact ⟨holds.waiting, holds.once, holds.mirror, holds.leader⟩

/-- A change of the arbiter alone. -/
theorem State.keeps_modArbiter (f : Arbiter → Arbiter)
    (setpoint : .setpoint ∉ off → SetpointWithin s → SetpointWithin (s.modArbiter f))
    (grant : ∀ L, .grant L ∉ off → s.Granted L → (s.modArbiter f).Granted L)
    (waits : .waits ∉ off → WaitsInOrder s → WaitsInOrder (s.modArbiter f)) : Keeps off s (s.modArbiter f) := by
  refine ⟨fun c hc holds => ?_⟩
  cases c with
  | store => exact ⟨holds.queue, holds.fifo, holds.room⟩
  | setpoint => exact setpoint hc holds
  | samples => exact ⟨holds.history, holds.samples, holds.filtered, holds.window, holds.lost⟩
  | counters base => exact holds
  | jets L => exact holds
  | grant L => exact grant L hc holds
  | waits => exact waits hc holds

/-- Without the lock and the settle the monitor's view of the samples is as it was. -/
theorem State.keeps_unlock (f : Monitor → Monitor)
    (unlocks : f s.monitor = { s.monitor with locked := false, settleTimer := none }) :
    Keeps off s (s.modMonitor f) := by
  have after : (s.modMonitor f).monitor = { s.monitor with locked := false, settleTimer := none } := unlocks
  refine s.keeps_modMonitor f (fun _ low => by rwa [unlocks]) (fun _ holds => ?_) fun _ _ lost => by rwa [unlocks] at lost
  obtain ⟨history, samples, filtered, window, lost⟩ := holds
  refine ⟨?_, ?_, ?_, ?_, ?_⟩ <;> rw [after]
  · exact history
  · exact samples
  · exact filtered
  · exact window
  · intro isLost
    obtain ⟨noHistory, noWindow, noAlarm, -, -⟩ := lost isLost
    exact ⟨noHistory, noWindow, noAlarm, rfl, rfl⟩

theorem State.keeps_judgeLock : Keeps off s s.judgeLock := by
  unfold State.judgeLock
  split
  case isTrue conditions =>
    split
    case isTrue => exact .refl off s
    case isFalse =>
      refine s.keeps_modMonitor _ (fun _ low => low) (fun _ holds => ?_) fun _ _ lost => lost
      obtain ⟨history, samples, filtered, window, -⟩ := holds
      refine ⟨history, samples, filtered, window, fun lost => ?_⟩
      simp only [State.lockConditions, Bool.and_eq_true, Bool.not_eq_true'] at conditions
      exact absurd (conditions.1.1.1.symm.trans lost) (by decide)
  case isFalse => exact s.keeps_unlock _ rfl

/-- Another target within the pressures of the part. -/
theorem State.keeps_setTarget {target : Nat} (low : SetpointWithin s → target ≤ pressureMax) :
    Keeps off s (s.setTarget target) := by
  unfold State.setTarget
  split
  · exact .refl off s
  · have targeted : Keeps off s (s.modArbiter fun a => { a with target := target }) :=
      s.keeps_modArbiter _ (fun _ h => ⟨h.config, low h, h.ramped, h.holder, h.queue⟩) (fun _ _ h => h)
        fun _ h => ⟨h.waiting, h.once, h.mirror, h.leader⟩
    exact (targeted.trans (State.keeps_unlock _ _ rfl)).trans (State.keeps_judgeLock _)

theorem rampToward_le {step target ramped top : Nat} (ht : target ≤ top) (hr : ramped ≤ top) :
    rampToward step target ramped ≤ top := by
  unfold rampToward
  split <;> omega

theorem State.keeps_rampTick : Keeps off s s.rampTick := by
  refine ((s.keeps_modMonitor _ (fun target ramped => ?_) (fun _ h => ?_) fun _ _ lost => lost).trans
    (State.keeps_judgeLock _)).trans (State.keeps_send ..)
  · dsimp only
    split
    · exact rampToward_le target ramped
    · exact Nat.zero_le _
  · exact ⟨h.history, h.samples, h.filtered, h.window, h.lost⟩

theorem State.keeps_judgeRipple {r : Nat} (heard : .samples ∉ off → s.monitor.lost = false) :
    Keeps off s (s.judgeRipple r) := by
  have alarm (b : Bool) : Keeps off s (s.modMonitor fun m => { m with alarm := b }) :=
    s.keeps_modMonitor _ (fun _ low => low)
      (fun watch h => ⟨h.history, h.samples, h.filtered, h.window, fun lost =>
        absurd (lost.symm.trans (heard watch)) (by decide)⟩)
      fun _ _ lost => lost
  unfold State.judgeRipple
  split
  · split
    · exact .refl off s
    · exact ((alarm true).trans (State.keeps_raiseAll ..)).trans
        (State.keeps_countPump _ (PumpCounters.raised_addRipple _))
  · split
    · exact alarm false
    · exact .refl off s

/-- The samples aside, which a sample of a lost pump brings into disorder until the loss is cleared. -/
theorem State.keeps_joinWindow (out : .samples ∈ off) (p : Nat) : Keeps off s (s.joinWindow p) := by
  unfold State.joinWindow
  dsimp only
  split
  · exact s.keeps_modMonitor _ (fun _ low => low) (fun watch => absurd out watch) fun _ _ lost => lost
  · exact (s.keeps_modMonitor _ (fun _ low => low) (fun watch => absurd out watch) fun _ _ lost => lost).trans
      (State.keeps_judgeRipple _ fun watch => absurd out watch)

end

end Sys2Proof.Machine

/-! PROOFS. What the operations of the lane sequencer keep of the invariants. -/

namespace Sys2Proof.Machine

/-! ## Operations that leave the lane states alone -/

section
variable (s : State)

theorem State.laneState_of_seq {s t : State} {M : Lane} (h : (t.lane M).seq = (s.lane M).seq) :
    t.laneState M = s.laneState M := congrArg Sequencer.state h

@[simp] theorem State.modQueue_laneState (L M : Lane) (f : LaneQueue → LaneQueue) :
    (s.modQueue L f).laneState M = s.laneState M := State.laneState_of_seq (by simp)
@[simp] theorem State.modGov_laneState (L M : Lane) (f : Governor → Governor) :
    (s.modGov L f).laneState M = s.laneState M := State.laneState_of_seq (by simp)
@[simp] theorem State.modMon_laneState (L M : Lane) (f : FlowMonitor → FlowMonitor) :
    (s.modMon L f).laneState M = s.laneState M := State.laneState_of_seq (by simp)
@[simp] theorem State.countLane_laneState (L M : Lane) (f : LaneCounters → LaneCounters) :
    (s.countLane L f).laneState M = s.laneState M := State.laneState_of_seq (by simp)
@[simp] theorem State.modArbiter_laneState (f : Arbiter → Arbiter) (M : Lane) :
    (s.modArbiter f).laneState M = s.laneState M := rfl
@[simp] theorem State.modMonitor_laneState (f : Monitor → Monitor) (M : Lane) :
    (s.modMonitor f).laneState M = s.laneState M := rfl
@[simp] theorem State.countPump_laneState (f : PumpCounters → PumpCounters) (M : Lane) :
    (s.countPump f).laneState M = s.laneState M := rfl
@[simp] theorem State.send_laneState (l : Link) (kind : Nat) (payload : List Byte) (M : Lane) :
    (s.send l kind payload).laneState M = s.laneState M := State.laneState_of_seq (by simp)
@[simp] theorem State.reply_laneState (p : Port) (kind : Nat) (result : Result) (body : List Byte) (M : Lane) :
    (s.reply p kind result body).laneState M = s.laneState M := State.laneState_of_seq (by simp)
@[simp] theorem State.raiseHead_laneState (L M : Lane) (e : HeadEvent) :
    (s.raiseHead L e).laneState M = s.laneState M := State.laneState_of_seq (by simp)
@[simp] theorem State.raiseCell_laneState (e : CellEvent) (M : Lane) :
    (s.raiseCell e).laneState M = s.laneState M := State.laneState_of_seq (by simp)
@[simp] theorem State.raiseAll_laneState (head : HeadEvent) (cell : CellEvent) (M : Lane) :
    (s.raiseAll head cell).laneState M = s.laneState M := State.laneState_of_seq (by simp)
@[simp] theorem State.recordReleased_laneState (L M : Lane) (outcome : RecordEnd) :
    (s.recordReleased L outcome).laneState M = s.laneState M := State.laneState_of_seq (by simp)
@[simp] theorem State.writeRecord_laneState (L M : Lane) (r : Record) :
    (s.writeRecord L r).laneState M = s.laneState M := State.laneState_of_seq (by simp)
@[simp] theorem State.dequeue_laneState (L M : Lane) : (s.dequeue L).laneState M = s.laneState M :=
  State.laneState_of_seq (by simp)
@[simp] theorem State.emptyQueue_laneState (L M : Lane) : (s.emptyQueue L).laneState M = s.laneState M :=
  State.laneState_of_seq (by simp)
@[simp] theorem State.meterStart_laneState (L M : Lane) (n : Nat) : (s.meterStart L n).laneState M = s.laneState M :=
  State.view_laneState (s.meterStart_view L n) M
@[simp] theorem State.meterLevel_laneState (L M : Lane) (n : Nat) : (s.meterLevel L n).laneState M = s.laneState M :=
  State.view_laneState (s.meterLevel_view L n) M
@[simp] theorem State.meterStop_laneState (L M : Lane) : (s.meterStop L).laneState M = s.laneState M :=
  State.view_laneState (s.meterStop_view L) M
@[simp] theorem State.giveBack_laneState (L M : Lane) : (s.giveBack L).laneState M = s.laneState M := rfl
@[simp] theorem State.removeEntry_laneState (L M : Lane) : (s.removeEntry L).laneState M = s.laneState M := rfl
@[simp] theorem State.endReleased_laneState (L M : Lane) : (s.endReleased L).laneState M = s.laneState M := by
  cases L <;> cases M <;> rfl
@[simp] theorem State.setWait_laneState (L M : Lane) (w : WaitReason) :
    (s.setWait L w).laneState M = s.laneState M := by cases L <;> cases M <;> rfl
@[simp] theorem State.answerNext_laneState (L M : Lane) : (s.answerNext L).laneState M = s.laneState M := by
  cases L <;> cases M <;> rfl
@[simp] theorem State.clearRepierce_laneState (L M : Lane) : (s.clearRepierce L).laneState M = s.laneState M := by
  cases L <;> cases M <;> rfl
@[simp] theorem State.noticeRelease_laneState (L M : Lane) (e : Entry) :
    (s.noticeRelease L e).laneState M = s.laneState M := State.send_laneState ..
@[simp] theorem State.noticeRepierce_laneState (L M : Lane) (segId : Nat) :
    (s.noticeRepierce L segId).laneState M = s.laneState M := State.send_laneState ..
@[simp] theorem State.noticePierceDone_laneState (L M : Lane) (segId : Nat) :
    (s.noticePierceDone L segId).laneState M = s.laneState M := State.send_laneState ..
theorem State.modSeq_laneState (L : Lane) (f : Sequencer → Sequencer) :
    (s.modSeq L f).laneState L = (f (s.lane L).seq).state := s.modLane_laneState L _

end

@[simp] theorem State.enterReady_laneState (s : State) (L : Lane) : (s.enterReady L).laneState L = .ready := by
  rw [State.enterReady, State.modGov_laneState, State.modSeq_laneState]

theorem State.endReleased_callsPierce (s : State) (L M : Lane) :
    (s.endReleased L).CallsPierce M ↔ s.CallsPierce M := by
  cases L <;> cases M <;> exact Iff.rfl

@[simp] theorem State.endReleased_arbiter (s : State) (L : Lane) : (s.endReleased L).arbiter = s.arbiter := by
  simp [State.endReleased]

theorem State.Unheld.of_view {s t : State} {L : Lane} (h : s.Unheld L) (view : t.view = s.view) : t.Unheld L := by
  rwa [State.Unheld, State.view_waits view, State.callsPierce_congr (State.view_lane view L)]

theorem State.Unheld.endReleased {s : State} {L M : Lane} (h : s.Unheld M) : (s.endReleased L).Unheld M := by
  rwa [State.Unheld, State.endReleased_arbiter, State.endReleased_callsPierce]

/-! ## Changes of a sequencer -/

/-- Neither a jet nor a released TRAVERSE is a matter of this state. -/
def LaneState.calm (state : LaneState) : Bool := !state.jetting && state != .traversing

theorem State.jetSafe_of_calm {s : State} {L : Lane} (h : (s.laneState L).calm = true) : s.JetSafe L := by
  simp only [LaneState.calm, Bool.and_eq_true, Bool.not_eq_true', bne_iff_ne] at h
  exact ⟨fun _ => h.1, fun state => absurd state h.2⟩

theorem State.granted_of_not_piercing {s : State} {L : Lane} (h : ∀ phase, s.laneState L ≠ .piercing phase) :
    s.Granted L := fun phase state => absurd state (h phase)

theorem LaneState.not_piercing_of_calm {state : LaneState} (h : state.calm = true) (phase : Phase) :
    state ≠ .piercing phase := by
  rintro rfl
  cases h

theorem State.granted_of_calm {s : State} {L : Lane} (h : (s.laneState L).calm = true) : s.Granted L :=
  State.granted_of_not_piercing (LaneState.not_piercing_of_calm h)

section
variable {off : Set Concern} (s : State)

/-- A change of a sequencer keeps every concern if it keeps those that speak of its lane. -/
theorem State.keeps_modSeq {L : Lane} {f : Sequencer → Sequencer}
    (jets : .jets L ∉ off → s.JetSafe L → (s.modSeq L f).JetSafe L)
    (grant : .grant L ∉ off → s.Granted L → (s.modSeq L f).Granted L)
    (waits : .waits ∉ off → L ∈ s.arbiter.queue.map PierceEntry.lane → s.CallsPierce L → (s.modSeq L f).CallsPierce L)
    (mode : .waits ∉ off → ((f (s.lane L).seq).state = .mirrored ↔ s.laneState L = .mirrored)) :
    Keeps off s (s.modSeq L f) :=
  .modLane id (fun _ => id) (.refl _) jets grant waits mode

/-- The sequencer enters a calm state. -/
theorem State.keeps_modSeq_calm {L : Lane} {f : Sequencer → Sequencer} (calm : (f (s.lane L).seq).state.calm = true)
    (unheld : .waits ∉ off → s.Unheld L)
    (mode : .waits ∉ off → ((f (s.lane L).seq).state = .mirrored ↔ s.laneState L = .mirrored)) :
    Keeps off s (s.modSeq L f) := by
  rw [← State.modSeq_laneState] at calm
  exact s.keeps_modSeq (fun _ _ => State.jetSafe_of_calm calm) (fun _ _ => State.granted_of_calm calm)
    (fun watch mem calls => absurd calls (unheld watch mem)) mode

/-- The sequencer stays in its state, which has no TRAVERSE released. -/
theorem State.keeps_modSeq_still {L : Lane} {f : Sequencer → Sequencer}
    (state : (f (s.lane L).seq).state = s.laneState L) (still : .jets L ∉ off → s.laneState L ≠ .traversing)
    (waits : .waits ∉ off → L ∈ s.arbiter.queue.map PierceEntry.lane → s.CallsPierce L →
      (s.modSeq L f).CallsPierce L) :
    Keeps off s (s.modSeq L f) := by
  refine s.keeps_modSeq (fun watch h => ?_) (fun _ h => ?_) waits fun _ => by rw [state]
  · rw [State.JetSafe, State.modSeq_laneState, state, State.modSeq_inhibit, State.modSeq_monitor]
    exact ⟨h.1, fun traversing => absurd traversing (still watch)⟩
  · rw [State.Granted, State.modSeq_laneState, state, State.modSeq_arbiter]
    exact h

/-- The sequencer enters another state, with a jet only where it had one or may have one. -/
theorem State.keeps_modSeq_jetting {L : Lane} {f : Sequencer → Sequencer}
    (still : (f (s.lane L).seq).state ≠ .traversing)
    (jets : .jets L ∉ off → (s.laneState L).jetting = true ∨ s.inhibit = false ∧ s.monitor.lost = false)
    (grant : .grant L ∉ off → ∀ phase, (f (s.lane L).seq).state = .piercing phase →
      (∃ before, s.laneState L = .piercing before) ∨ ∃ h, s.arbiter.holder = some h ∧ h.lane = L)
    (unheld : .waits ∉ off → s.Unheld L)
    (mode : .waits ∉ off → ((f (s.lane L).seq).state = .mirrored ↔ s.laneState L = .mirrored)) :
    Keeps off s (s.modSeq L f) := by
  refine s.keeps_modSeq (fun watch h => ?_) (fun watch h phase state => ?_)
    (fun watch mem calls => absurd calls (unheld watch mem)) mode
  · rw [State.JetSafe, State.modSeq_laneState, State.modSeq_inhibit, State.modSeq_monitor]
    refine ⟨fun withheld => ?_, fun state => absurd state still⟩
    obtain jet | ⟨released, heard⟩ := jets watch
    · exact absurd ((h.1 withheld).symm.trans jet) (by decide)
    · rw [released, heard] at withheld
      exact absurd withheld (by decide)
  · rw [State.modSeq_laneState] at state
    rw [State.modSeq_arbiter]
    obtain ⟨before, was⟩ | held := grant watch phase state
    · exact h before was
    · exact held

/-! ## The operations of the lane sequencer -/

theorem State.keeps_setWait (L : Lane) (w : WaitReason) : Keeps off s (s.setWait L w) :=
  s.keeps_modSeq_of_view L rfl

theorem State.keeps_noticeRelease (L : Lane) (e : Entry) : Keeps off s (s.noticeRelease L e) := s.keeps_send ..
theorem State.keeps_noticeRepierce (L : Lane) (segId : Nat) : Keeps off s (s.noticeRepierce L segId) :=
  s.keeps_send ..
theorem State.keeps_noticePierceDone (L : Lane) (segId : Nat) : Keeps off s (s.noticePierceDone L segId) :=
  s.keeps_send ..
theorem State.keeps_noticeOverride (L : Lane) (o : Nat) : Keeps off s (s.noticeOverride L o) :=
  (s.keeps_modGov ..).trans (State.keeps_send ..)

theorem State.keeps_endReleased {L : Lane} (still : .jets L ∉ off → s.laneState L ≠ .traversing) :
    Keeps off s (s.endReleased L) := by
  refine (s.keeps_modSeq_still rfl still fun _ _ calls => ?_).trans (State.keeps_modGov ..)
  obtain ⟨ready, pending, e, at_head, pierces⟩ := calls
  refine ⟨by rw [State.modSeq_laneState]; exact ready, by rw [State.modSeq_lane_seq]; exact pending, e, ?_, ?_⟩
  · rw [State.queueHead, State.modSeq_lane_queue]
    exact at_head
  · rw [State.modSeq_lane_seq]
    exact pierces

/-- Every entry to READY of a lane that the pierce queue does not hold to its place, and that is not MIRRORED. -/
theorem State.keeps_enterReady {L : Lane} (unheld : .waits ∉ off → s.Unheld L)
    (own : .waits ∉ off → s.laneState L ≠ .mirrored) : Keeps off s (s.enterReady L) := by
  refine Keeps.close (c := .jets L) ?_ fun _ _ => State.jetSafe_of_calm (s.enterReady_laneState L ▸ rfl)
  have lanes (watch : .waits ∉ insert (Concern.jets L) off) : .waits ∉ off := fun mem => watch (.inr mem)
  refine (((s.keeps_meterStop L).trans (State.keeps_endReleased _ fun watch => absurd (Set.mem_insert ..) watch)).trans
    (State.keeps_modSeq_calm _ rfl (fun watch => ((unheld (lanes watch)).of_view (s.meterStop_view L)).endReleased)
      fun watch => ?_)).trans (State.keeps_modGov ..)
  exact iff_of_false (show LaneState.ready ≠ .mirrored by decide) (by simpa using own (lanes watch))

end

end Sys2Proof.Machine

/-! PROOFS. What releases, pierce phases, faults and aborts keep of the invariants. -/

namespace Sys2Proof.Machine

/-! ## A lane without an entry in the pierce queue -/

/-- The lane has no entry in the pierce queue. -/
def State.Absent (s : State) (L : Lane) : Prop := L ∉ s.arbiter.queue.map PierceEntry.lane

theorem State.Absent.unheld {s : State} {L : Lane} (h : s.Absent L) : s.Unheld L := fun mem => absurd mem h

theorem State.Absent.congr {s t : State} {L : Lane} (h : s.Absent L) (arbiter : t.arbiter = s.arbiter) :
    t.Absent L := by rwa [State.Absent, arbiter]

/-- In a pierce queue in order a lane that calls for no pierce has no entry. -/
theorem WaitsInOrder.absent {s : State} (h : WaitsInOrder s) {L : Lane} (unheld : ¬ s.CallsPierce L) : s.Absent L :=
  fun mem => unheld (((waitsInOrder_iff s).mp h).1.1 L mem)

theorem State.absent_removeEntry (s : State) (L : Lane) : (s.removeEntry L).Absent L := by
  simp [State.Absent, State.removeEntry, State.modArbiter]

theorem State.hasEntry_iff (s : State) (L : Lane) : s.hasEntry L = true ↔ ¬ s.Absent L := by
  simp [State.hasEntry, State.Absent]

/-! ## The arbiter's record of a lane -/

section
variable {off : Set Concern} (s : State)

theorem State.keeps_giveBack {L : Lane} (free : .grant L ∉ off → ∀ phase, s.laneState L ≠ .piercing phase) :
    Keeps off s (s.giveBack L) := by
  refine s.keeps_modArbiter _ (fun _ ⟨config, target, ramped, holder, queue⟩ => ?_) (fun M watch held phase state => ?_)
    fun _ ⟨waiting, once, mirror, leader⟩ => ?_
  · refine ⟨config, ?_, ramped, ?_, ?_⟩ <;> dsimp only [State.modArbiter]
    all_goals (repeat' split) <;> simp_all
  · obtain ⟨h, holds, own⟩ := held phase state
    refine ⟨h, ?_, own⟩
    dsimp only [State.modArbiter]
    rw [holds]
    dsimp only
    rw [if_neg, holds]
    rintro rfl
    exact free (own ▸ watch) phase (own ▸ state)
  · refine ⟨?_, ?_, mirror, leader⟩ <;> dsimp only [State.modArbiter] <;> (repeat' split)
    all_goals assumption

theorem State.keeps_removeEntry (L : Lane) : Keeps off s (s.removeEntry L) := by
  refine s.keeps_modArbiter _ (fun _ h => ⟨h.config, h.target, h.ramped, h.holder, fun e mem => ?_⟩) (fun _ _ h => h)
    fun _ h => ⟨fun e mem => ?_, ?_, h.mirror, h.leader⟩
  · exact h.queue e (List.mem_filter.mp mem).1
  · exact h.waiting e (List.mem_filter.mp mem).1
  · exact h.once.sublist (List.filter_sublist.map _)

theorem ConfigWithin.recipe_mem {c : ConfigStore} (h : ConfigWithin c) (n : Nat) :
    recipeInRange (recipeImage (c.recipes.getD n .powerOn)) = true := by
  rw [List.getD_eq_getElem?_getD]
  cases found : c.recipes[n]? with
  | none => decide
  | some r => exact h.recipes r (List.mem_of_getElem? found)

/-- The pressures of a lane's recipe are within those of the part (R1). -/
theorem State.recipe_pressures {s : State} (h : ConfigWithin s.config) (L : Lane) :
    (s.recipe L).pCut ≤ pressureMax ∧ (s.recipe L).pPierce ≤ pressureMax := by
  have bounds : recipeInRange (recipeImage (s.recipe L)) = true := by
    unfold State.recipe
    split
    · exact h.recipe_mem _
    · decide
  simp only [recipeInRange, recipeImage, Bool.and_eq_true, within_iff] at bounds
  unfold pressureMax
  omega

theorem State.CallsPierce.of_queue_seq {s t : State} {L : Lane} (calls : s.CallsPierce L)
    (queue : (t.lane L).queue = (s.lane L).queue) (state : t.laneState L = s.laneState L)
    (pending : (t.lane L).seq.nextPending = (s.lane L).seq.nextPending)
    (flag : (t.lane L).seq.repierceFlag = (s.lane L).seq.repierceFlag)
    (kind : (t.lane L).seq.repierceKind = (s.lane L).seq.repierceKind) : t.CallsPierce L := by
  unfold State.CallsPierce State.headToPierce State.queueHead at *
  rwa [state, pending, queue, flag, kind]

/-- A lane that calls for a pierce takes its place in the pierce queue. -/
theorem State.keeps_askPierce {L : Lane} {kind : PierceKind} (calls : .waits ∉ off → s.CallsPierce L) :
    Keeps off s (s.askPierce L kind) := by
  unfold State.askPierce
  dsimp only
  split
  case isTrue => exact s.keeps_setWait ..
  case isFalse fresh =>
    rw [State.hasEntry_iff, not_not] at fresh
    refine (s.keeps_modArbiter _ (fun _ h => ?_) (fun _ _ h => ?_) fun watch h => ?_).trans (State.keeps_setWait ..)
    · refine ⟨h.config, h.target, h.ramped, h.holder, fun e mem => ?_⟩
      obtain old | rfl : e ∈ s.arbiter.queue ∨ _ := by simpa [State.modArbiter] using mem
      · exact h.queue e old
      · exact (State.recipe_pressures h.config L).2
    · exact h
    · refine ⟨fun e mem => ?_, ?_, h.mirror, h.leader⟩
      · obtain old | rfl : e ∈ s.arbiter.queue ∨ _ := by simpa [State.modArbiter] using mem
        · exact h.waiting e old
        · exact calls watch
      · simpa [State.modArbiter, List.nodup_append, State.Absent] using ⟨h.once, fun e mem same => fresh (same ▸ List.mem_map_of_mem mem)⟩

/-! ## Releases -/

/-- A change of a sequencer that leaves the state alone. -/
theorem State.modSeq_laneState_of_state {L : Lane} {f : Sequencer → Sequencer} (M : Lane)
    (state : (f (s.lane L).seq).state = s.laneState L) : (s.modSeq L f).laneState M = s.laneState M := by
  by_cases own : M = L
  · subst own
    rw [State.modSeq_laneState, state]
  · exact State.modLane_laneState_of_ne own _

theorem State.keeps_answerNext {L : Lane} (still : .jets L ∉ off → s.laneState L ≠ .traversing)
    (unheld : .waits ∉ off → s.Unheld L) : Keeps off s (s.answerNext L) :=
  s.keeps_modSeq_still rfl still fun watch mem calls => absurd calls (unheld watch mem)

theorem State.keeps_releaseHead {L : Lane} {e : Entry} (at_head : s.queueHead L = some e)
    (still : .jets L ∉ off → s.laneState L ≠ .traversing) (absent : .waits ∉ off → s.Absent L) :
    Keeps off s (s.releaseHead L e) := by
  refine ((s.keeps_dequeue at_head fun watch => (absent watch).unheld).trans
    (State.keeps_modSeq_still _ rfl (by rwa [State.dequeue_laneState]) fun watch mem => ?_)).trans
    (State.keeps_answerNext _ ?_ fun watch => ?_)
  · exact absurd (by simpa using mem) (absent watch)
  · rwa [State.modSeq_laneState_of_state (state := rfl), State.dequeue_laneState]
  · exact ((absent watch).congr (by simp)).unheld

@[simp] theorem State.answerNext_arbiter (L : Lane) : (s.answerNext L).arbiter = s.arbiter := by
  simp [State.answerNext]
@[simp] theorem State.releaseHead_arbiter (L : Lane) (e : Entry) : (s.releaseHead L e).arbiter = s.arbiter := by
  simp [State.releaseHead]
@[simp] theorem State.releaseHead_laneState (L M : Lane) (e : Entry) :
    (s.releaseHead L e).laneState M = s.laneState M := by
  rw [State.releaseHead, State.answerNext_laneState, State.modSeq_laneState_of_state (state := rfl),
    State.dequeue_laneState]
theorem State.releaseHead_released (L : Lane) (e : Entry) :
    ((s.releaseHead L e).lane L).seq.released = .segment e := by
  rw [State.releaseHead, State.answerNext, State.modSeq_lane_seq, State.modSeq_lane_seq]

theorem State.keeps_releaseTraverse {L : Lane} {e : Entry} {told : Bool} (at_head : s.queueHead L = some e)
    (ready : s.laneState L = .ready) (traverse : Segment.isCut e.seg = false) (absent : .waits ∉ off → s.Absent L) :
    Keeps off s (s.releaseTraverse L e told) := by
  have entered : Keeps off s ((s.releaseHead L e).modSeq L fun q => { q with state := .traversing }) := by
    refine (s.keeps_releaseHead at_head (fun _ => by simp [ready]) absent).trans
      (State.keeps_modSeq _ (fun _ _ => ?_) (fun _ _ => ?_) (fun watch mem => ?_) fun _ => ?_)
    · refine ⟨fun _ => by rw [State.modSeq_laneState]; rfl, fun _ => ⟨e, ?_, traverse⟩⟩
      rw [State.modSeq_lane_seq]
      exact s.releaseHead_released L e
    · exact State.granted_of_not_piercing fun phase => by rw [State.modSeq_laneState]; nofun
    · exact absurd (by simpa using mem) (absent watch)
    · simp [ready]
  unfold State.releaseTraverse
  dsimp only
  split
  · exact entered
  · exact entered.trans (State.keeps_noticeRelease ..)

theorem State.keeps_releaseCut {L : Lane} {e : Entry} {told : Bool} (at_head : s.queueHead L = some e)
    (idle : s.laneState L = .openIdle) (absent : .waits ∉ off → s.Absent L) :
    Keeps off s (s.releaseCut L e told) := by
  have entered := (((s.keeps_releaseHead at_head (fun _ => by simp [idle]) absent).trans
    (State.keeps_modSeq_jetting _
      (L := L) (f := fun q => { q with state := .cutting, stallTimer := none, stepCount := 0 }) (show LaneState.cutting ≠ .traversing by decide)
      (fun _ => .inl (by rw [State.releaseHead_laneState, idle]; rfl)) (fun _ _ => nofun)
      (fun _ => State.unheld_of_laneState (by simp [idle])) fun _ => by simp [idle])).trans
    (State.keeps_modGov _ L fun g => { g with lastSent := 1000, segmentMin := some 1000 }))
  unfold State.releaseCut
  dsimp only
  split
  · exact entered
  · exact entered.trans (State.keeps_noticeRelease ..)

end

end Sys2Proof.Machine

/-! PROOFS. What release attempts, pierce phases, faults and aborts keep of the invariants. -/

namespace Sys2Proof.Machine

/-! ## Release attempts -/

section
variable {off : Set Concern} (s : State)

theorem State.not_callsPierce_of_head {s : State} {L : Lane} {e : Entry} (at_head : s.queueHead L = some e)
    (noPierce : ∀ dwell, e.seg ≠ .pierce dwell) (noCut : Segment.isCut e.seg = false) : ¬ s.CallsPierce L := by
  rintro ⟨-, -, e', at_head', pierces⟩
  obtain rfl : e = e' := Option.some.inj (at_head.symm.trans at_head')
  obtain ⟨dwell, pierce⟩ | ⟨cut, -⟩ := pierces
  · exact noPierce dwell pierce
  · exact Bool.false_ne_true (noCut.symm.trans cut)

theorem State.CallsPierce.clearRepierce {s : State} {L : Lane} {e : Entry} {dwell : Option Nat}
    (ready : s.laneState L = .ready) (pending : (s.lane L).seq.nextPending = true)
    (at_head : s.queueHead L = some e) (pierce : e.seg = .pierce dwell) : (s.clearRepierce L).CallsPierce L := by
  refine ⟨by rwa [State.clearRepierce_laneState], ?_, e, ?_, .inl ⟨dwell, pierce⟩⟩
  · rwa [State.clearRepierce, State.modSeq_lane_seq]
  · rwa [State.queueHead, State.clearRepierce, State.modSeq_lane_queue]

theorem State.keeps_clearRepierce {L : Lane} (still : .jets L ∉ off → s.laneState L ≠ .traversing)
    (waits : .waits ∉ off → L ∈ s.arbiter.queue.map PierceEntry.lane → s.CallsPierce L →
      (s.clearRepierce L).CallsPierce L) : Keeps off s (s.clearRepierce L) :=
  s.keeps_modSeq_still rfl still waits

theorem State.keeps_attemptReady {L : Lane} {told : Bool} (ready : s.laneState L = .ready)
    (pending : (s.lane L).seq.nextPending = true) : Keeps off s (s.attemptReady L told) := by
  have still : s.laneState L ≠ .traversing := by simp [ready]
  refine .given .waits fun off' _ order => ?_
  have absent (free : ¬ s.CallsPierce L) (watch : .waits ∉ off') : s.Absent L := (order watch).absent free
  unfold State.attemptReady
  cases at_head : s.queueHead L with
  | none => exact s.keeps_setWait ..
  | some e =>
    dsimp only
    cases seg : e.seg with
    | traverse =>
      have free : ¬ s.CallsPierce L :=
        State.not_callsPierce_of_head at_head (fun dwell => seg ▸ nofun) (seg ▸ rfl)
      refine (s.keeps_clearRepierce (fun _ => still) fun _ _ calls => absurd calls free).trans
        (State.keeps_releaseTraverse _ ?_ ?_ (seg ▸ rfl) fun watch => (absent free watch).congr ?_)
      · rwa [State.queueHead, State.clearRepierce, State.modSeq_lane_queue]
      · rwa [State.clearRepierce_laneState]
      · rw [State.clearRepierce, State.modSeq_arbiter]
    | pierce =>
      have calls : (s.clearRepierce L).CallsPierce L := .clearRepierce ready pending at_head seg
      exact (s.keeps_clearRepierce (fun _ => still) fun _ _ _ => calls).trans
        (State.keeps_askPierce _ fun _ => calls)
    | line | arc =>
      dsimp only
      split
      case h_1 kind flag owed =>
        exact s.keeps_askPierce fun _ =>
          ⟨ready, pending, e, at_head, .inr ⟨by rw [seg]; rfl, flag, by rw [owed]; rfl⟩⟩
      case h_2 => exact .refl off' s

theorem State.keeps_attemptOpenIdle {L : Lane} {told : Bool} (idle : s.laneState L = .openIdle) :
    Keeps off s (s.attemptOpenIdle L told) := by
  refine .given .waits fun off' _ order => ?_
  have free : ¬ s.CallsPierce L := fun calls => by rw [State.CallsPierce, idle] at calls; nomatch calls.1
  unfold State.attemptOpenIdle
  split
  case h_1 => exact s.keeps_setWait ..
  case h_2 e at_head =>
    split
    · split
      · exact s.keeps_releaseCut at_head idle fun watch => (order watch).absent free
      · exact s.keeps_setWait ..
    · exact .refl off' s

theorem State.keeps_attempt (L : Lane) (told : Bool) : Keeps off s (s.attempt L told) := by
  unfold State.attempt
  split
  case isTrue pending =>
    split
    case h_1 ready => exact s.keeps_attemptReady ready pending
    case h_2 idle => exact s.keeps_attemptOpenIdle idle
    case h_3 => exact .refl off s
  case isFalse => exact .refl off s

theorem State.keeps_endPurge {L : Lane} (unheld : .waits ∉ off → s.Unheld L)
    (own : .waits ∉ off → s.laneState L ≠ .mirrored) : Keeps off s (s.endPurge L) :=
  (s.keeps_enterReady unheld own).trans (State.keeps_attempt ..)

/-! ## The phases of a pierce -/

theorem State.keeps_enterOpenIdle {L : Lane} (jet : .jets L ∉ off → (s.laneState L).jetting = true)
    (unready : s.laneState L ≠ .ready) (own : s.laneState L ≠ .mirrored) : Keeps off s (s.enterOpenIdle L) :=
  s.keeps_modSeq_jetting (show LaneState.openIdle ≠ .traversing by decide) (fun watch => .inl (jet watch))
    (fun _ _ => nofun) (fun _ => State.unheld_of_laneState unready) fun _ =>
      iff_of_false (show LaneState.openIdle ≠ .mirrored by decide) own

/-- A timer of a sequencer alone changes. -/
theorem State.keeps_dwellTimer (L : Lane) (timer : Timer) :
    Keeps off s (s.modSeq L fun q => { q with dwellTimer := timer }) := s.keeps_modSeq_of_view L rfl

@[simp] theorem State.modSeq_dwellTimer_laneState (L M : Lane) (timer : Timer) :
    (s.modSeq L fun q => { q with dwellTimer := timer }).laneState M = s.laneState M :=
  s.modSeq_laneState_of_state M rfl

@[simp] theorem State.enterOpenIdle_laneState (L : Lane) : (s.enterOpenIdle L).laneState L = .openIdle := by
  rw [State.enterOpenIdle, State.modSeq_laneState]

theorem State.keeps_endDwell {L : Lane} (piercing : ∃ phase, s.laneState L = .piercing phase) :
    Keeps off s (s.endDwell L) := by
  obtain ⟨phase, piercing⟩ := piercing
  unfold State.endDwell
  extract_lets released metered recorded idle
  have before : metered.laneState L = .piercing phase := by simp [metered, piercing]
  have recorded_state : recorded.laneState L = .piercing phase := by simp [recorded, before]
  have kept : Keeps off s idle := by
    refine Keeps.close (c := .grant L) ?_ fun _ _ =>
      State.granted_of_not_piercing fun _ => by simp [idle]
    have of_metered : Keeps (insert (.grant L) off) s metered :=
      (s.keeps_dwellTimer L none).trans (State.keeps_meterLevel ..)
    have of_recorded : Keeps (insert (.grant L) off) s recorded :=
      (of_metered.trans (State.keeps_giveBack _ fun watch => absurd (Set.mem_insert ..) watch)).trans
        (State.keeps_recordReleased ..)
    refine ((of_recorded.trans (State.keeps_noticePierceDone _ L released.segId)).trans
      (State.keeps_endReleased _ fun _ => ?_)).trans (State.keeps_enterOpenIdle _ (fun _ => ?_) ?_ ?_)
    · simp [recorded_state]
    · simp [recorded_state, LaneState.jetting]
    · simp [recorded_state]
    · simp [recorded_state]
  have open_idle : idle.laneState L = .openIdle := State.enterOpenIdle_laneState ..
  clear_value idle released
  split
  · refine (kept.trans (State.keeps_clearRepierce _ (fun _ => by simp [open_idle]) fun _ _ calls => ?_)).trans
      (State.keeps_attempt ..)
    rw [State.CallsPierce, open_idle] at calls
    nomatch calls.1
  · exact kept.trans (State.keeps_countLane _ L (LaneCounters.raised_addSegmentsDone _))

theorem State.keeps_enterPhase {L : Lane} (piercing : ∃ phase, s.laneState L = .piercing phase)
    {f : Sequencer → Sequencer} {phase : Phase} (enters : (f (s.lane L).seq).state = .piercing phase) :
    Keeps off s (s.modSeq L f) := by
  obtain ⟨before, piercing⟩ := piercing
  refine s.keeps_modSeq_jetting ?_ (fun _ => .inl (by rw [piercing]; rfl)) (fun _ _ _ => .inl ⟨before, piercing⟩)
    (fun _ => State.unheld_of_laneState (by simp [piercing])) fun _ => iff_of_false ?_ (by simp [piercing])
  all_goals simp [enters]

theorem State.keeps_enterDwell {L : Lane} (piercing : ∃ phase, s.laneState L = .piercing phase) :
    Keeps off s (s.enterDwell L) := by
  unfold State.enterDwell
  extract_lets dwelling
  have kept : Keeps off s dwelling :=
    (s.keeps_meterStart ..).trans (State.keeps_enterPhase _ (by simpa using piercing) (phase := .dwell) rfl)
  split
  · exact kept.trans (State.keeps_endDwell _ ⟨.dwell, State.modSeq_laneState ..⟩)
  · exact kept.trans (State.keeps_dwellTimer ..)

theorem State.keeps_enterOpen {L : Lane} (piercing : ∃ phase, s.laneState L = .piercing phase) :
    Keeps off s (s.enterOpen L) := by
  unfold State.enterOpen
  extract_lets opened
  have kept : Keeps off s opened :=
    (s.keeps_countLane L (LaneCounters.raised_addPierce _)).trans
      (State.keeps_enterPhase _ (by simpa using piercing) (phase := .opened) rfl)
  split
  · exact kept.trans (State.keeps_enterDwell _ ⟨.opened, State.modSeq_laneState ..⟩)
  · exact kept.trans (State.keeps_modSeq_of_view _ L rfl)

/-- A lane that the pierce queue does not hold enters RAMP with the grant, no jet being withheld. What was released is not
the TRAVERSE of a TRAVERSING lane any more. -/
theorem State.keeps_enterRamp {t : State} {L : Lane} (before : Keeps (insert (.jets L) off) s t)
    (free : t.inhibit = false ∧ t.monitor.lost = false) (granted : ∃ h, t.arbiter.holder = some h ∧ h.lane = L)
    (unheld : .waits ∉ off → t.Unheld L) (own : .waits ∉ off → t.laneState L ≠ .mirrored) :
    Keeps off s (t.enterRamp L) := by
  unfold State.enterRamp
  extract_lets ramping
  have ramps : ramping.laneState L = .piercing .ramp := State.modSeq_laneState ..
  have kept : Keeps off s ramping := by
    have lanes (watch : .waits ∉ insert (Concern.jets L) off) : .waits ∉ off := fun mem => watch (.inr mem)
    refine (before.trans (t.keeps_modSeq_jetting (L := L) ?_ (fun watch => absurd (Set.mem_insert ..) watch) (fun _ _ _ => .inr granted)
      (fun watch => unheld (lanes watch)) fun watch => iff_of_false ?_ (own (lanes watch)))).close fun _ _ => ⟨?_, ?_⟩
    · exact show LaneState.piercing .ramp ≠ .traversing by decide
    · exact show LaneState.piercing .ramp ≠ .mirrored by decide
    · rw [State.modSeq_inhibit, State.modSeq_monitor, free.1, free.2]
      simp
    · rw [ramps]
      nofun
  split
  · exact kept.trans (State.keeps_enterOpen _ ⟨.ramp, ramps⟩)
  · exact kept

end

end Sys2Proof.Machine

/-! PROOFS. What faults, aborts, the arbiter and the end of an event keep of the invariants. -/

namespace Sys2Proof.Machine

/-! ## What a change of the target leaves alone -/

section
variable (s : State)

@[simp] theorem State.judgeLock_lane (L : Lane) : s.judgeLock.lane L = s.lane L := by
  unfold State.judgeLock
  (repeat' split) <;> rfl
@[simp] theorem State.judgeLock_arbiter : s.judgeLock.arbiter = s.arbiter := by
  unfold State.judgeLock
  (repeat' split) <;> rfl
@[simp] theorem State.judgeLock_inhibit : s.judgeLock.inhibit = s.inhibit := by
  unfold State.judgeLock
  (repeat' split) <;> rfl
@[simp] theorem State.judgeLock_lost : s.judgeLock.monitor.lost = s.monitor.lost := by
  unfold State.judgeLock
  (repeat' split) <;> rfl
@[simp] theorem State.setTarget_lane (n : Nat) (L : Lane) : (s.setTarget n).lane L = s.lane L := by
  unfold State.setTarget
  split
  · rfl
  · exact State.judgeLock_lane ..
@[simp] theorem State.setTarget_holder (n : Nat) : (s.setTarget n).arbiter.holder = s.arbiter.holder := by
  unfold State.setTarget
  split
  · rfl
  · rw [State.judgeLock_arbiter]
    rfl
@[simp] theorem State.setTarget_queue (n : Nat) : (s.setTarget n).arbiter.queue = s.arbiter.queue := by
  unfold State.setTarget
  split
  · rfl
  · rw [State.judgeLock_arbiter]
    rfl
@[simp] theorem State.setTarget_inhibit (n : Nat) : (s.setTarget n).inhibit = s.inhibit := by
  unfold State.setTarget
  split
  · rfl
  · exact State.judgeLock_inhibit _
@[simp] theorem State.setTarget_lost (n : Nat) : (s.setTarget n).monitor.lost = s.monitor.lost := by
  unfold State.setTarget
  split
  · rfl
  · exact State.judgeLock_lost _
@[simp] theorem State.setTarget_laneState (n : Nat) (L : Lane) : (s.setTarget n).laneState L = s.laneState L :=
  State.laneState_of_seq (by simp)

/-- Entry to READY changes nothing of the pierce queue. -/
theorem State.Absent.enterReady {s : State} {L M : Lane} (h : s.Absent M) : (s.enterReady L).Absent M := by
  rw [State.Absent, ← State.view_waits (s.meterStop_view L)] at h
  rwa [State.Absent, State.enterReady, State.modGov, State.modLane_arbiter, State.modSeq_arbiter,
    State.endReleased_arbiter]

theorem State.dequeue_inhibit (L : Lane) : (s.dequeue L).inhibit = s.inhibit :=
  State.inhibit_of_base (s.dequeue_base L)
@[simp] theorem State.releaseHead_inhibit (L : Lane) (e : Entry) : (s.releaseHead L e).inhibit = s.inhibit := by
  simp [State.releaseHead, State.answerNext, State.dequeue_inhibit]
@[simp] theorem State.releaseHead_monitor (L : Lane) (e : Entry) : (s.releaseHead L e).monitor = s.monitor := by
  simp [State.releaseHead, State.answerNext]

end

section
variable {off : Set Concern} (s : State)

/-! ## Faults and aborts -/

theorem FaultCause.jetting_of_reaches {cause : FaultCause} {state : LaneState} (h : cause.reaches state = true) :
    state.jetting = true := by
  cases cause with
  | pumpLoss | inhibit | abrasiveLoss => cases state <;> first | rfl | exact h
  | starved | lockTimeout | stall =>
    obtain rfl := beq_iff_eq.mp h
    rfl

/-- Entry to FAULT of a lane in which a jet may be open. -/
theorem State.keeps_enterFault {L : Lane} {cause : FaultCause} (jet : (s.laneState L).jetting = true) :
    Keeps off s (s.enterFault L cause) := by
  have own : s.laneState L ≠ .mirrored := fun state => by rw [state] at jet; cases jet
  have still : s.laneState L ≠ .traversing := fun state => by rw [state] at jet; cases jet
  unfold State.enterFault
  extract_lets released recorded freed faulted
  have of_recorded : Keeps (insert (.grant L) off) s recorded :=
    (s.keeps_meterStop L).trans (State.keeps_recordReleased ..)
  have of_freed : Keeps (insert (.grant L) off) s freed :=
    ((of_recorded.trans (State.keeps_endReleased _ fun _ => by simpa [recorded] using still)).trans
      (State.keeps_giveBack _ fun watch => absurd (Set.mem_insert ..) watch)).trans (State.keeps_removeEntry ..)
  have of_faulted : Keeps off s faulted := by
    refine (of_freed.trans (State.keeps_modSeq_calm _ rfl (fun _ => (State.absent_removeEntry _ _).unheld) fun _ => ?_)).close
      fun _ _ => State.granted_of_calm (State.modSeq_laneState .. ▸ rfl)
    exact iff_of_false (show LaneState.fault ≠ .mirrored by decide) (by simpa [freed, recorded] using own)
  exact ((of_faulted.trans (State.keeps_countLane _ L (LaneCounters.raised_addFault _))).trans
    (State.keeps_countLane _ L (LaneCounters.raised_addEndedOther _ _))).trans (State.keeps_raiseHead ..)

theorem State.keeps_faultLane (L : Lane) (cause : FaultCause) : Keeps off s (s.faultLane L cause) := by
  unfold State.faultLane
  split
  case isTrue reaches => exact s.keeps_enterFault (FaultCause.jetting_of_reaches reaches)
  case isFalse => exact .refl off s

theorem State.keeps_faultBoth (cause : FaultCause) : Keeps off s (s.faultBoth cause) :=
  (s.keeps_faultLane ..).trans (State.keeps_faultLane ..)

theorem State.keeps_abortLane {L : Lane} (own : s.laneState L ≠ .mirrored) : Keeps off s (s.abortLane L) := by
  unfold State.abortLane
  extract_lets q discarded recorded emptied written
  have of_recorded : Keeps (insert (.grant L) off) s recorded :=
    ((s.keeps_meterStop L).trans (State.keeps_recordReleased ..)).trans
      (State.keeps_countLane _ L (LaneCounters.raised_addEndedOther _ _))
  have absent : (recorded.giveBack L |>.removeEntry L).Absent L := State.absent_removeEntry _ _
  have of_emptied : Keeps (insert (.grant L) off) s emptied :=
    (((of_recorded.trans (State.keeps_giveBack _ fun watch => absurd (Set.mem_insert ..) watch)).trans
      (State.keeps_removeEntry ..)).trans (State.keeps_emptyQueue _ fun _ => absent.unheld)).trans
      (State.keeps_countLane _ L (LaneCounters.raised_addEndedOther _ _))
  have of_written : Keeps (insert (.grant L) off) s written := of_emptied.trans (State.keeps_writeRecord ..)
  have absent' : written.Absent L := absent.congr (by simp [written, emptied])
  have state : written.laneState L = s.laneState L := by simp [written, emptied, recorded]
  have of_ready : Keeps off s (written.enterReady L) :=
    (of_written.trans (State.keeps_enterReady _ (fun _ => absent'.unheld) fun _ => state ▸ own)).close
      fun _ _ => State.granted_of_calm (State.enterReady_laneState .. ▸ rfl)
  refine of_ready.trans (State.keeps_modSeq_still _ rfl (fun _ => by simp) fun _ mem => ?_)
  exact absurd mem absent'.enterReady

end

end Sys2Proof.Machine

/-! PROOFS. What the arbiter's part of an event and the end of an event keep of the invariants. -/

namespace Sys2Proof.Machine

section
variable {off : Set Concern} (s : State)

theorem State.targetRule_le {s : State} (h : SetpointWithin s) : s.targetRule ≤ pressureMax := by
  have least (ps : List Nat) : ∀ p ≤ pressureMax, ps.foldl min p ≤ pressureMax := by
    induction ps with
    | nil => exact fun p low => low
    | cons q qs ih => exact fun p low => ih (min p q) ((min_le_left ..).trans low)
  unfold State.targetRule
  split
  · exact Nat.zero_le _
  · split
    case h_1 holder held => exact h.holder holder held
    case h_2 =>
      split
      case h_1 =>
        have bounds := h.config.timing
        simp only [timingInRange, timingImage, Bool.and_eq_true, within_iff] at bounds
        unfold pressureMax
        omega
      case h_2 p ps cuts =>
        obtain ⟨L, -, rfl⟩ := List.mem_map.mp (cuts ▸ List.mem_cons_self : p ∈ _)
        exact least ps _ (State.recipe_pressures h.config L).1

theorem State.keeps_retarget : Keeps off s s.retarget := s.keeps_setTarget State.targetRule_le

/-- The arbiter tells the other lane of the head entry once: of the entries it changes no lane and no pressure. -/
theorem State.keeps_notifyPeer {e : PierceEntry} {behind : List PierceEntry}
    (front : s.arbiter.queue = e :: behind) : Keeps off s (s.notifyPeer e behind) := by
  unfold State.notifyPeer
  split
  · exact .refl off s
  · refine Keeps.trans ?_ (State.keeps_raiseHead ..)
    refine .of_view_of_counts ?_ fun _ => rfl
    simp [State.view, State.modArbiter, front, LaneUnit.view, State.lane]

theorem State.keeps_takeGrant {L : Lane} {kind : PierceKind} {told : Bool}
    (free : s.inhibit = false ∧ s.monitor.lost = false) (granted : ∃ h, s.arbiter.holder = some h ∧ h.lane = L)
    (absent : .waits ∉ off → s.Absent L) (own : .waits ∉ off → s.laneState L ≠ .mirrored) :
    Keeps off s (s.takeGrant L kind told) := by
  have inner (watch : .waits ∉ insert (Concern.jets L) off) : .waits ∉ off := fun mem => watch (.inr mem)
  have jetless {P : Prop} (watch : Concern.jets L ∉ insert (Concern.jets L) off) : P :=
    absurd (Set.mem_insert ..) watch
  have repierces (e : Entry) : Keeps off s (((s.modSeq L fun q =>
      { q with released := .repierce e.segId kind, elapsed := some 0 }).noticeRepierce L e.segId).enterRamp L) := by
    refine State.keeps_enterRamp s ((State.keeps_modSeq_still s (L := L) rfl jetless fun watch mem =>
      absurd mem (absent (inner watch))).trans (State.keeps_noticeRepierce ..)) ?_ ?_ (fun watch => ?_) fun watch => ?_
    · simpa [State.noticeRepierce, State.send] using free
    · simpa [State.noticeRepierce] using granted
    · exact ((absent watch).congr (by simp [State.noticeRepierce])).unheld
    · rw [State.noticeRepierce_laneState, State.modSeq_laneState]
      exact own watch
  unfold State.takeGrant
  split
  case h_1 e at_head =>
    split
    case h_1 =>
      extract_lets released
      have of_released : Keeps (insert (.jets L) off) s released :=
        s.keeps_releaseHead at_head jetless fun watch => absent (inner watch)
      refine State.keeps_enterRamp s (t := if told then released else released.noticeRelease L e) ?_ ?_ ?_
        (fun watch => State.Absent.unheld ((absent watch).congr ?_)) fun watch => ?_
      all_goals cases told <;> simp only [if_true, Bool.false_eq_true, if_false]
      · exact of_released.trans (State.keeps_noticeRelease ..)
      · exact of_released
      · simpa [State.noticeRelease, State.send, released] using free
      · simpa [released] using free
      · simpa [State.noticeRelease, released] using granted
      · simpa [released] using granted
      · simp [State.noticeRelease, released]
      · simp [released]
      · simpa [released] using own watch
      · simpa [released] using own watch
    case h_2 => exact .refl off s
    case h_3 => exact repierces e
  case h_2 => exact .refl off s

theorem State.grantFree_iff : s.grantFree = true ↔
    s.arbiter.holder = none ∧ s.inhibit = false ∧ s.monitor.lost = false := by
  simp [State.grantFree, and_assoc]

/-- The entry leaves the queue and its lane becomes the holder, while no lane holds the grant. -/
theorem State.keeps_makeHolder {e : PierceEntry} {behind : List PierceEntry} (front : s.arbiter.queue = e :: behind)
    (unheld : s.arbiter.holder = none) :
    Keeps off s (s.modArbiter fun a =>
      { a with queue := behind, holder := some { lane := e.lane, kind := e.kind, pressure := e.pressure } }) := by
  refine s.keeps_modArbiter _ (fun _ h => ?_) (fun M _ held phase state => ?_) fun _ h => ?_
  · have entries := front ▸ h.queue
    refine ⟨h.config, h.target, h.ramped, ?_, fun e' mem => entries e' (.tail _ mem)⟩
    rintro _ ⟨rfl⟩
    exact entries e (.head _)
  · obtain ⟨_, holds, -⟩ := held phase state
    exact nomatch unheld.symm.trans holds
  · exact ⟨fun e' mem => h.waiting e' (front ▸ .tail _ mem), (List.nodup_cons.mp (front ▸ h.once :)).2, h.mirror,
      h.leader⟩

theorem State.keeps_grant {e : PierceEntry} {behind : List PierceEntry} {told : Bool}
    (front : s.arbiter.queue = e :: behind) (free : s.grantFree = true) : Keeps off s (s.grant e behind told) := by
  obtain ⟨unheld, released, heard⟩ := s.grantFree_iff.mp free
  refine .given .waits fun off' _ order => ?_
  unfold State.grant
  refine ((s.keeps_makeHolder front unheld).trans (State.keeps_retarget _)).trans (State.keeps_takeGrant _ ?_ ?_
    (fun watch => ?_) fun watch => ?_)
  · simp [State.retarget, released, heard]
  · simp [State.retarget, State.modArbiter]
  · have once := (order watch).once
    rw [front, List.map_cons, List.nodup_cons] at once
    simpa [State.Absent, State.retarget, State.modArbiter] using once.1
  · have ready : s.laneState e.lane = .ready := ((order watch).waiting e (front ▸ .head _)).1
    simp [State.retarget, ready]

theorem State.keeps_arbitrateFor (told : Option Lane) (rounds : Nat) : Keeps off s (s.arbitrateFor told rounds) := by
  induction rounds generalizing s with
  | zero => exact s.keeps_retarget
  | succ rounds ih =>
    unfold State.arbitrateFor
    split
    case h_1 => exact s.keeps_retarget
    case h_2 e behind front =>
      split
      case isTrue free =>
        split
        · exact (s.keeps_grant front free).trans (ih _)
        · exact (s.keeps_notifyPeer front).trans (State.keeps_retarget _)
      case isFalse => exact s.keeps_retarget

theorem State.keeps_arbitrate : Keeps off s s.arbitrate := s.keeps_arbitrateFor ..

/-! ## The end of an event -/

theorem State.keeps_countValve (L : Lane) : Keeps off s (s.countValve L) := by
  unfold State.countValve
  split
  · exact s.keeps_countLane L (LaneCounters.raised_addValveOpenMs _)
  · exact .refl off s

theorem State.keeps_countTick : Keeps off s s.countTick := by
  unfold State.countTick
  split
  · exact ((s.keeps_countValve .A).trans (State.keeps_countValve _ .B)).trans
      (.of_view_of_counts rfl fun _ => rfl)
  · exact .refl off s

theorem State.keeps_closeTick : Keeps off s s.closeTick := by
  unfold State.closeTick
  split
  · exact .refl off s
  · exact s.keeps_countTick

theorem State.keeps_conclude : Keeps off s s.conclude := s.keeps_arbitrate.trans (State.keeps_closeTick _)

theorem State.keeps_pierceWaitExpiry (L : Lane) : Keeps off s (s.pierceWaitExpiry L) := by
  unfold State.pierceWaitExpiry
  split
  · refine Keeps.trans ?_ (State.keeps_raiseHead ..)
    refine .of_view_of_counts ?_ fun _ => rfl
    have same (e : PierceEntry) : (fun e : PierceEntry => (e.lane, e.pressure))
        (if e.lane = L then { e with waitTimer := none } else e) = (e.lane, e.pressure) := by
      split <;> rfl
    have entries : (s.arbiter.queue.map fun e => if e.lane = L then { e with waitTimer := none } else e).map
        (fun e => (e.lane, e.pressure)) = s.arbiter.queue.map fun e => (e.lane, e.pressure) := by
      rw [List.map_map]
      exact List.map_congr_left fun e _ => same e
    simp [State.view, State.modArbiter, LaneUnit.view, State.lane] at entries ⊢
    exact entries
  · exact .refl off s

end

end Sys2Proof.Machine

/-! PROOFS. What the job and lane requests keep of the invariants. -/

namespace Sys2Proof.Machine

section
variable {off : Set Concern} (s : State)

/-! ## Jobs -/

theorem State.not_callsPierce_of_laneState {s : State} {L : Lane} (h : s.laneState L ≠ .ready) : ¬ s.CallsPierce L :=
  fun calls => h calls.1

/-- A lane in FAULT or CLOSED comes to READY and is then set up for work: it has no entry in the pierce queue. -/
theorem State.keeps_readied {L : Lane} (unready : s.laneState L ≠ .ready) (own : s.laneState L ≠ .mirrored)
    {f : Sequencer → Sequencer} (state : (f ((s.enterReady L).lane L).seq).state = (s.enterReady L).laneState L) :
    Keeps off s ((s.enterReady L).modSeq L f) := by
  refine .given .waits fun off' _ order => ?_
  refine (s.keeps_enterReady (fun _ => State.unheld_of_laneState unready) fun _ => own).trans
    (State.keeps_modSeq_still _ state (fun _ => by simp) fun watch mem => ?_)
  exact absurd mem ((order watch).absent (State.not_callsPierce_of_laneState unready)).enterReady

theorem State.keeps_openJob {L : Lane} (closed : s.laneState L = .closed) (recipe : Option Nat) :
    Keeps off s (s.openJob L recipe) :=
  (s.keeps_readied (by simp [closed]) (by simp [closed]) rfl).trans (State.keeps_conclude _)

theorem State.keeps_takeJobOpen (L : Lane) (material thickness : Nat) :
    Keeps off s (s.takeJobOpen L material thickness) := by
  unfold State.takeJobOpen
  extract_lets sel
  split
  · exact s.keeps_refuse ..
  · split
    · exact s.keeps_refuse ..
    · split
      case isTrue => exact s.keeps_refuse ..
      case isFalse closed =>
        split
        · exact s.keeps_reply ..
        · exact (s.keeps_reply ..).trans (State.keeps_openJob _ (by simpa using closed) _)

theorem State.keeps_closeJob {L : Lane} (ready : s.laneState L = .ready) (empty : s.fill L = 0) :
    Keeps off s (s.closeJob L) := by
  have headless : ¬ s.CallsPierce L := by
    rintro ⟨-, -, e, at_head, -⟩
    rw [State.queueHead, List.eq_nil_of_length_eq_zero empty] at at_head
    cases at_head
  refine (s.keeps_modSeq_calm rfl (fun _ _ => headless) fun _ => ?_).trans (State.keeps_conclude _)
  exact iff_of_false (show LaneState.closed ≠ .mirrored by decide) (by simp [ready])

theorem State.keeps_takeJobClose (L : Lane) : Keeps off s (s.takeJobClose L) := by
  unfold State.takeJobClose
  split
  case h_1 | h_2 => exact s.keeps_refuse ..
  case h_3 ready =>
    split
    case isTrue empty =>
      exact (s.keeps_reply ..).trans (State.keeps_closeJob _ (by simpa using ready) (by simpa [State.fill] using empty))
    case isFalse => exact s.keeps_refuse ..
  case h_4 => exact s.keeps_refuse ..

/-! ## POST -/

/-- A finalised tail is the tail with its junction feed. -/
theorem finalise_seg {t : FactorTables} {tail e : Entry} {seg : Segment} {fSeg : Nat}
    (h : finalise t tail seg fSeg = some e) : e.seg = tail.seg := by
  unfold finalise at h
  split at h
  · obtain rfl := Option.some.inj h
    rfl
  · cases h

theorem State.keeps_storePost {L : Lane} {segId fSeg : Nat} {seg : Segment}
    (room : s.fill L < (s.queueRegion L).size) : Keeps off s (s.storePost L segId seg fSeg) := by
  unfold State.storePost
  extract_lets finalised
  have kept : Keeps off s finalised ∧ finalised.fill L = s.fill L ∧ finalised.queueRegion L = s.queueRegion L := by
    cases tail : s.finalisedTail L seg fSeg with
    | none => simp [finalised, tail, Keeps.refl]
    | some e =>
      have made := tail
      unfold State.finalisedTail at made
      cases at_tail : s.queueTail L with
      | none => simp [at_tail] at made
      | some old =>
        rw [at_tail] at made
        simp only [finalised, tail]
        refine ⟨s.keeps_replaceTail at_tail (finalise_seg made), ?_, s.modLane_queueRegion L L _⟩
        have held : (s.lane L).queue.entries ≠ [] := fun empty => by
          rw [State.queueTail, empty] at at_tail
          cases at_tail
        have some? : 0 < (s.lane L).queue.entries.length := List.length_pos_iff.mpr held
        rw [State.fill, State.replaceTail, State.modQueue_lane_queue, State.fill, List.length_append,
          List.length_dropLast, List.length_singleton, Nat.sub_add_cancel some?]
  obtain ⟨kept, fill, region⟩ := kept
  exact (kept.trans (State.keeps_enqueue _ (by rwa [fill, region]) _)).trans (State.keeps_modSeq_of_view _ L rfl)

theorem State.reply_queueRegion (p : Port) (kind : Nat) (result : Result) (body : List Byte) (L : Lane) :
    (s.reply p kind result body).queueRegion L = s.queueRegion L := by
  have config := State.config_of_base (s.reply_base p kind result body)
  cases L <;> simp only [State.queueRegion, config]

theorem State.keeps_acceptPost {L : Lane} {segId fSeg : Nat} {seg : Segment}
    (room : s.fill L < (s.queueRegion L).size) : Keeps off s (s.acceptPost L segId seg fSeg) := by
  unfold State.acceptPost
  extract_lets replied stored
  have kept : Keeps off s stored := (s.keeps_reply ..).trans
    (State.keeps_storePost _ (by simpa [State.reply_queueRegion, State.fill] using room))
  split
  · exact (kept.trans (State.keeps_attempt ..)).trans (State.keeps_conclude _)
  · split
    · exact kept.trans (State.keeps_conclude _)
    · exact kept

theorem State.keeps_takePost (L : Lane) (segId : Nat) (body : PostBody) : Keeps off s (s.takePost L segId body) := by
  have refused (result : Result) : Keeps off s (s.refuse L.port kindPost result) := s.keeps_refuse ..
  unfold State.takePost
  split
  · exact refused _
  · split
    · exact refused _
    · split
      · exact refused _
      · split
        · exact refused _
        · split
          · exact refused _
          · extract_lets fSeg
            split
            · exact refused _
            · split
              case isTrue => exact refused _
              case isFalse room =>
                split
                · exact s.keeps_reply ..
                · exact s.keeps_acceptPost (Nat.lt_of_not_le room)

/-! ## NEXT -/

theorem State.keeps_runNext {L : Lane} (still : s.laneState L ≠ .traversing) : Keeps off s (s.runNext L) := by
  unfold State.runNext
  extract_lets pending attempted
  have kept : Keeps off s pending := s.keeps_modSeq_still rfl (fun _ => still) fun _ _ ⟨ready, _, e, at_head, pierces⟩ =>
    ⟨by rwa [State.modSeq_laneState], by rw [State.modSeq_lane_seq], e,
      by rwa [State.queueHead, State.modSeq_lane_queue], by rwa [State.modSeq_lane_seq]⟩
  split
  · exact kept.trans (State.keeps_setWait ..)
  · exact ((kept.trans (State.keeps_attempt ..)).trans (State.keeps_arbitrateFor ..)).trans (State.keeps_closeTick _)

theorem State.keeps_takeNext (L : Lane) : Keeps off s (s.takeNext L) := by
  unfold State.takeNext
  extract_lets refuse
  have refused (result : Result) : Keeps off s (refuse result) := s.keeps_refuse ..
  split
  case h_1 | h_2 | h_3 => exact refused _
  case h_4 =>
    split
    · exact refused _
    · split
      case isTrue rests =>
        refine (s.keeps_reply ..).trans (State.keeps_runNext _ ?_)
        rw [State.reply_laneState]
        intro traversing
        simp [traversing] at rests
      case isFalse => exact refused _

/-! ## DONE, RESUME and ABORT -/

theorem State.keeps_finish {L : Lane} {e : Entry} (released : (s.lane L).seq.released = .segment e)
    (working : s.laneState L = .cutting ∨ s.laneState L = .traversing) : Keeps off s (s.finish L e) := by
  have unready : s.laneState L ≠ .ready := by obtain h | h := working <;> simp [h]
  have own : s.laneState L ≠ .mirrored := by obtain h | h := working <;> simp [h]
  refine .given (.jets L) fun off' _ safe => ?_
  unfold State.finish
  extract_lets counted
  have kept : Keeps off' s counted :=
    (s.keeps_recordReleased L .done).trans (State.keeps_countLane _ L (LaneCounters.raised_addSegmentsDone _))
  have state : counted.laneState L = s.laneState L := by simp [counted]
  split
  case h_1 => exact kept.trans (State.keeps_enterReady _ (fun _ => State.unheld_of_laneState (state ▸ unready))
    fun _ => state ▸ own)
  case h_2 cut cuts =>
    extract_lets ended stopping
    have cutting (watch : .jets L ∉ off') : s.laneState L = .cutting := by
      refine working.resolve_right fun traversing => ?_
      obtain ⟨e', released', traverse⟩ := (safe watch).2 traversing
      obtain rfl : e = e' := Released.segment.inj (released.symm.trans released')
      rw [Segment.isCut, cuts] at traverse
      cases traverse
    have ended_state : ended.laneState L = s.laneState L := by simp [ended, state]
    have kept_ended : Keeps off' s ended := (kept.trans
      (State.keeps_countLane _ L (LaneCounters.raised_addCutLength _ _))).trans
      (State.keeps_endReleased _ fun watch => by simp [state, cutting watch])
    split
    · have kept_stopping : Keeps off' s stopping := by
        refine (kept_ended.trans (State.keeps_meterStop _ L)).trans
          (State.keeps_modSeq_jetting _ (show LaneState.stopping ≠ .traversing by decide)
            (fun watch => .inl ?_) (fun _ _ => nofun) (fun _ => State.unheld_of_laneState ?_) fun _ =>
              iff_of_false (show LaneState.stopping ≠ .mirrored by decide) ?_)
        · simp [ended_state, cutting watch, LaneState.jetting, LaneState.valveOpen]
        · simpa [ended_state] using unready
        · simpa [ended_state] using own
      have stopped : stopping.laneState L = .stopping := State.modSeq_laneState ..
      split
      · exact kept_stopping.trans (State.keeps_endPurge _
          (fun _ => State.unheld_of_laneState (by simp [stopped])) fun _ => by simp [stopped])
      · exact kept_stopping.trans (State.keeps_modSeq_of_view _ L rfl)
    · exact kept_ended.trans (State.keeps_enterOpenIdle _ (fun watch => by
        rw [ended_state, cutting watch]; rfl) (ended_state ▸ unready) (ended_state ▸ own))

theorem State.keeps_takeDone (L : Lane) (segId : Nat) : Keeps off s (s.takeDone L segId) := by
  unfold State.takeDone
  extract_lets refuse judge
  have refused (result : Result) : Keeps off s (refuse result) := s.keeps_refuse ..
  have judged (working : s.laneState L = .cutting ∨ s.laneState L = .traversing) : Keeps off s judge := by
    cases released : (s.lane L).seq.released with
    | none | repierce =>
      simp only [judge, released]
      exact refused _
    | segment e =>
      simp only [judge, released]
      split
      · exact ((s.keeps_reply ..).trans (State.keeps_finish _ (by simpa using released) (by simpa using working))).trans
          (State.keeps_conclude _)
      · exact refused _
  split
  case h_1 | h_4 | h_5 => exact refused _
  case h_2 cutting => exact judged (.inl cutting)
  case h_3 traversing => exact judged (.inr traversing)

theorem State.keeps_resumeLane {L : Lane} (fault : s.laneState L = .fault) : Keeps off s (s.resumeLane L) := by
  unfold State.resumeLane
  extract_lets owed
  exact (s.keeps_readied (by simp [fault]) (by simp [fault]) rfl).trans (State.keeps_conclude _)

theorem State.keeps_takeResume (L : Lane) : Keeps off s (s.takeResume L) := by
  unfold State.takeResume
  split
  · exact s.keeps_refuse ..
  · split
    case isTrue => exact s.keeps_refuse ..
    case isFalse fault =>
      split
      · exact s.keeps_refuse ..
      · exact (s.keeps_reply ..).trans (State.keeps_resumeLane _ (by simpa using fault))

theorem State.keeps_takeAbort (source : AbortSource) : Keeps off s (s.takeAbort source) := by
  unfold State.takeAbort
  extract_lets p
  split
  · exact s.keeps_refuse ..
  · split
    case isTrue => exact s.keeps_refuse ..
    case isFalse own =>
      split
      · exact s.keeps_refuse ..
      · exact ((s.keeps_reply ..).trans (State.keeps_abortLane _ (by simpa using own))).trans (State.keeps_conclude _)

end

end Sys2Proof.Machine

/-! PROOFS. What the operations of one lane leave alone in the other lane, and what the expiries of the lanes keep of the
invariants. -/

namespace Sys2Proof.Machine

/-! ## The other lane -/

section
variable (s : State) {L M : Lane} (other : M ≠ L)
include other

theorem State.modLane_lane_of_ne (f : LaneUnit → LaneUnit) : (s.modLane L f).lane M = s.lane M := by
  rw [State.modLane_lane_eq, if_neg other]
theorem State.modSeq_lane_of_ne (f : Sequencer → Sequencer) : (s.modSeq L f).lane M = s.lane M :=
  s.modLane_lane_of_ne other _
theorem State.dequeue_lane_of_ne : (s.dequeue L).lane M = s.lane M := by
  unfold State.dequeue
  dsimp only
  split
  · rw [State.raiseHead_lane, State.modQueue, State.modLane_lane_of_ne _ other]
  · exact s.modLane_lane_of_ne other _
theorem State.writeRecord_lane_of_ne (r : Record) : (s.writeRecord L r).lane M = s.lane M := by
  unfold State.writeRecord
  dsimp only
  (repeat' split) <;> simp [State.countLane, State.modLane_lane_of_ne _ other]
theorem State.recordReleased_lane_of_ne (outcome : RecordEnd) :
    (s.recordReleased L outcome).lane M = s.lane M := by
  unfold State.recordReleased
  split
  · exact s.writeRecord_lane_of_ne other _
  · rfl
theorem State.endReleased_lane_of_ne : (s.endReleased L).lane M = s.lane M := by
  rw [State.endReleased, State.modGov, State.modLane_lane_of_ne _ other, State.modSeq_lane_of_ne _ other]
theorem State.releaseHead_lane_of_ne (e : Entry) : (s.releaseHead L e).lane M = s.lane M := by
  rw [State.releaseHead, State.answerNext, State.modSeq_lane_of_ne _ other, State.modSeq_lane_of_ne _ other,
    State.dequeue_lane_of_ne _ other]
theorem State.releaseTraverse_lane_of_ne (e : Entry) (told : Bool) :
    (s.releaseTraverse L e told).lane M = s.lane M := by
  cases told <;> simp [State.releaseTraverse, State.noticeRelease, State.modSeq_lane_of_ne _ other,
    State.releaseHead_lane_of_ne _ other]
theorem State.releaseCut_lane_of_ne (e : Entry) (told : Bool) : (s.releaseCut L e told).lane M = s.lane M := by
  cases told <;> simp [State.releaseCut, State.noticeRelease, State.modGov, State.modLane_lane_of_ne _ other,
    State.modSeq_lane_of_ne _ other, State.releaseHead_lane_of_ne _ other]
theorem State.setWait_lane_of_ne (w : WaitReason) : (s.setWait L w).lane M = s.lane M :=
  s.modSeq_lane_of_ne other _
theorem State.clearRepierce_lane_of_ne : (s.clearRepierce L).lane M = s.lane M := s.modSeq_lane_of_ne other _
theorem State.askPierce_lane_of_ne (kind : PierceKind) : (s.askPierce L kind).lane M = s.lane M := by
  unfold State.askPierce
  dsimp only
  rw [State.setWait_lane_of_ne _ other]
  split
  · rfl
  · cases M <;> rfl

theorem State.attempt_lane_of_ne (told : Bool) : (s.attempt L told).lane M = s.lane M := by
  have ready : (s.attemptReady L told).lane M = s.lane M := by
    unfold State.attemptReady
    (repeat' split) <;> simp [State.setWait_lane_of_ne _ other, State.releaseTraverse_lane_of_ne _ other,
      State.clearRepierce_lane_of_ne _ other, State.askPierce_lane_of_ne _ other]
  have openIdle : (s.attemptOpenIdle L told).lane M = s.lane M := by
    unfold State.attemptOpenIdle
    (repeat' split) <;> simp [State.setWait_lane_of_ne _ other, State.releaseCut_lane_of_ne _ other]
  unfold State.attempt
  split
  · split
    · exact ready
    · exact openIdle
    · rfl
  · rfl

/-- The end of a dwell changes nothing that the invariants look at in the other lane. -/
theorem State.endDwell_view_of_ne : ((s.endDwell L).lane M).view = (s.lane M).view := by
  unfold State.endDwell
  extract_lets released metered recorded idle
  have kept_metered : (metered.lane M).view = (s.lane M).view :=
    (State.view_lane (State.meterLevel_view _ L _) M).trans
      (congrArg LaneUnit.view (s.modSeq_lane_of_ne other _))
  have kept_recorded : recorded.lane M = metered.lane M :=
    (State.recordReleased_lane_of_ne _ other _).trans rfl
  have kept_idle : idle.lane M = metered.lane M := by
    rw [← kept_recorded]
    show ((((recorded.noticePierceDone L released.segId).endReleased L).enterOpenIdle L).lane M) = _
    rw [State.enterOpenIdle, State.modSeq_lane_of_ne _ other,
      State.endReleased_lane_of_ne _ other, State.noticePierceDone, State.send_lane]
  rw [← kept_metered, ← kept_idle]
  clear_value released idle
  split
  · rw [State.attempt_lane_of_ne _ other, State.clearRepierce_lane_of_ne _ other]
  · rw [State.countLane, State.modLane_lane_of_ne _ other]

theorem State.enterDwell_view_of_ne : ((s.enterDwell L).lane M).view = (s.lane M).view := by
  unfold State.enterDwell
  extract_lets dwelling
  have kept : (dwelling.lane M).view = (s.lane M).view :=
    (congrArg LaneUnit.view (State.modSeq_lane_of_ne _ other _)).trans (State.view_lane (s.meterStart_view L _) M)
  split
  · exact (dwelling.endDwell_view_of_ne other).trans kept
  · rw [State.modSeq_lane_of_ne _ other, kept]

theorem State.enterOpen_view_of_ne : ((s.enterOpen L).lane M).view = (s.lane M).view := by
  unfold State.enterOpen
  extract_lets opened
  have kept : opened.lane M = s.lane M :=
    (State.modSeq_lane_of_ne _ other _).trans (s.modLane_lane_of_ne other _)
  split
  · rw [State.enterDwell_view_of_ne _ other, kept]
  · rw [State.modSeq_lane_of_ne _ other, kept]

theorem State.enterFault_view_of_ne (cause : FaultCause) :
    ((s.enterFault L cause).lane M).view = (s.lane M).view := by
  unfold State.enterFault
  extract_lets released recorded freed faulted
  have kept : faulted.lane M = (s.meterStop L).lane M := by
    calc faulted.lane M = freed.lane M := State.modSeq_lane_of_ne _ other _
      _ = (recorded.endReleased L).lane M := by simp [freed, State.removeEntry, State.giveBack]
      _ = recorded.lane M := State.endReleased_lane_of_ne _ other
      _ = (s.meterStop L).lane M := State.recordReleased_lane_of_ne _ other _
  rw [State.raiseHead_lane, State.countLane, State.modLane_lane_of_ne _ other, State.countLane,
    State.modLane_lane_of_ne _ other, kept]
  exact State.view_lane (s.meterStop_view L) M

theorem State.faultLane_view_of_ne (cause : FaultCause) :
    ((s.faultLane L cause).lane M).view = (s.lane M).view := by
  unfold State.faultLane
  split
  · exact s.enterFault_view_of_ne other cause
  · rfl

end

/-! ## The expiries of the lanes -/

section
variable {off : Set Concern} (s : State)

theorem State.keeps_lockTimeoutExpiry (L : Lane) : Keeps off s (s.lockTimeoutExpiry L) := by
  unfold State.lockTimeoutExpiry
  split
  · exact ((s.keeps_modSeq_of_view L rfl).trans (State.keeps_faultLane ..)).trans (State.keeps_conclude _)
  · exact .refl off s

theorem State.keeps_leadExpiry (L : Lane) : Keeps off s (s.leadExpiry L) := by
  unfold State.leadExpiry
  split
  case isTrue due =>
    simp only [Bool.and_eq_true, beq_iff_eq] at due
    exact (s.keeps_enterDwell ⟨.opened, due.2⟩).trans (State.keeps_conclude _)
  case isFalse => exact .refl off s

theorem State.keeps_dwellExpiry (L : Lane) : Keeps off s (s.dwellExpiry L) := by
  unfold State.dwellExpiry
  split
  case isTrue due =>
    simp only [Bool.and_eq_true, beq_iff_eq] at due
    exact (s.keeps_endDwell ⟨.dwell, due.2⟩).trans (State.keeps_conclude _)
  case isFalse => exact .refl off s

theorem State.keeps_stallExpiry (L : Lane) : Keeps off s (s.stallExpiry L) := by
  unfold State.stallExpiry
  split
  · exact ((s.keeps_modSeq_of_view L rfl).trans (State.keeps_faultLane ..)).trans (State.keeps_conclude _)
  · exact .refl off s

theorem State.keeps_purgeExpiry (L : Lane) : Keeps off s (s.purgeExpiry L) := by
  unfold State.purgeExpiry
  split
  case isTrue due =>
    simp only [Bool.and_eq_true, beq_iff_eq] at due
    exact (s.keeps_endPurge (fun _ => State.unheld_of_laneState (by simp [due.2])) fun _ => by simp [due.2]).trans
      (State.keeps_conclude _)
  case isFalse => exact .refl off s

theorem State.keeps_starvationExpiry (L : Lane) : Keeps off s (s.starvationExpiry L) := by
  unfold State.starvationExpiry
  split
  · exact ((s.keeps_modGov ..).trans (State.keeps_faultLane ..)).trans (State.keeps_conclude _)
  · exact .refl off s

theorem State.keeps_settleExpiry : Keeps off s s.settleExpiry := by
  unfold State.settleExpiry
  split
  case isTrue due =>
    extract_lets locked report
    have kept : Keeps off s locked := by
      refine s.keeps_modMonitor _ (fun _ low => low) (fun _ h => ?_) fun _ _ lost => lost
      refine ⟨h.history, h.samples, h.filtered, h.window, fun lost => ?_⟩
      obtain ⟨-, -, -, -, unsettled⟩ := h.lost lost
      rw [unsettled] at due
      cases due
    have reported (t : State) (L : Lane) (same : t.laneState L = s.laneState L) : Keeps off t (report t L) := by
      simp only [report]
      split
      case isTrue ramps => exact t.keeps_enterOpen ⟨.ramp, same ▸ ramps⟩
      case isFalse => exact .refl off t
    refine ((kept.trans (reported locked .A rfl)).trans (reported _ .B ?_)).trans (State.keeps_conclude _)
    simp only [report]
    split
    · exact congrArg LaneView.state (locked.enterOpen_view_of_ne (show Lane.B ≠ .A by decide))
    · rfl
  case isFalse => exact .refl off s

/-! ## Flow windows and governors -/

theorem State.keeps_assertLoss (L : Lane) : Keeps off s (s.assertLoss L) := by
  unfold State.assertLoss
  extract_lets raised copied
  have kept : Keeps off s copied := by
    simp only [copied]
    split
    · exact s.keeps_raiseHead ..
    · exact (s.keeps_raiseHead ..).trans (State.keeps_raiseHead ..)
  exact (kept.trans (State.keeps_faultLane ..)).trans (State.keeps_conclude _)

theorem State.keeps_windowExpiry (L : Lane) : Keeps off s (s.windowExpiry L) := by
  unfold State.windowExpiry
  extract_lets m ended
  have kept : Keeps off s ended := s.keeps_modMon ..
  split
  · split
    · exact kept.trans (State.keeps_assertLoss ..)
    · exact kept.trans (State.keeps_closeTick _)
  · exact .refl off s

theorem State.keeps_graceExpiry (L : Lane) : Keeps off s (s.graceExpiry L) := by
  unfold State.graceExpiry
  split
  · exact s.keeps_modMon ..
  · exact .refl off s

theorem State.keeps_evaluateLane (L : Lane) : Keeps off s (s.evaluateLane L) := by
  unfold State.evaluateLane
  split
  · extract_lets o judged
    have kept : Keeps off s judged := s.keeps_modGov ..
    split
    · split
      · exact kept
      · exact (kept.trans (State.keeps_modGov ..)).trans (State.keeps_noticeOverride ..)
    · split
      · exact (((kept.trans (State.keeps_modGov ..)).trans (State.keeps_noticeOverride ..)).trans
          (State.keeps_raiseHead ..)).trans (State.keeps_countLane _ L (LaneCounters.raised_addStarvation _))
      · split
        · exact kept.trans (State.keeps_noticeOverride ..)
        · exact kept
  · exact .refl off s

theorem State.keeps_evaluation : Keeps off s s.evaluation := by
  unfold State.evaluation
  split
  · have made : Keeps off s { s with evaluationDue := false } := .of_view_of_counts rfl fun _ => rfl
    exact ((made.trans (State.keeps_evaluateLane _ .A)).trans (State.keeps_evaluateLane _ .B)).trans
      (State.keeps_closeTick _)
  · exact .refl off s

end

end Sys2Proof.Machine

/-! PROOFS. What the pump, the inhibit input and the link ports keep of the invariants. -/

namespace Sys2Proof.Machine

/-! ## The causes that reach every jet -/

/-- After a cause has reached both lanes a lane is in FAULT, or is as it was in a state that the cause does not reach. -/
theorem State.faultBoth_cases (s : State) (cause : FaultCause) (L : Lane) :
    (s.faultBoth cause).laneState L = .fault ∨
      ((s.faultBoth cause).lane L).view = (s.lane L).view ∧ cause.reaches (s.laneState L) = false := by
  have fault (t : State) (M : Lane) (reaches : cause.reaches (t.laneState M) = true) :
      (t.faultLane M cause).laneState M = .fault := by
    rw [State.faultLane, if_pos reaches, State.enterFault]
    simp [State.modSeq_laneState]
  have spared (t : State) (M : Lane) (reaches : cause.reaches (t.laneState M) = false) : t.faultLane M cause = t := by
    rw [State.faultLane, reaches, if_neg (by decide)]
  unfold State.faultBoth
  cases L with
  | A =>
    have kept := (s.faultLane .A cause).faultLane_view_of_ne (show Lane.A ≠ .B by decide) cause
    rw [State.laneState, show ((s.faultLane .A cause).faultLane .B cause |>.lane .A).seq.state = _ from
      congrArg LaneView.state kept, kept]
    cases reaches : cause.reaches (s.laneState .A) with
    | true => exact .inl (fault s .A reaches)
    | false => exact .inr ⟨by rw [spared s .A reaches], rfl⟩
  | B =>
    have kept := s.faultLane_view_of_ne (show Lane.B ≠ .A by decide) cause
    have state : (s.faultLane .A cause).laneState .B = s.laneState .B := congrArg LaneView.state kept
    cases reaches : cause.reaches (s.laneState .B) with
    | true => exact .inl (fault _ .B (state ▸ reaches))
    | false => exact .inr ⟨by rw [spared _ .B (state ▸ reaches), kept], rfl⟩

/-- A cause that reaches every jet leaves no jet, and a TRAVERSE that was released stays so. -/
theorem State.jetSafe_faultBoth {s : State} {cause : FaultCause} {L : Lane}
    (every : ∀ state : LaneState, state.jetting = true → cause.reaches state = true)
    (traverse : s.laneState L = .traversing → ∃ e, (s.lane L).seq.released = .segment e ∧ Segment.isCut e.seg = false) :
    (s.faultBoth cause).JetSafe L := by
  obtain fault | ⟨kept, unreached⟩ := s.faultBoth_cases cause L
  · exact State.jetSafe_of_calm (by rw [fault]; rfl)
  · have state : (s.faultBoth cause).laneState L = s.laneState L := congrArg LaneView.state kept
    have released : ((s.faultBoth cause).lane L).seq.released = (s.lane L).seq.released :=
      congrArg LaneView.released kept
    refine ⟨fun _ => ?_, fun traversing => ?_⟩
    · rw [state, Bool.eq_false_iff]
      exact fun jet => Bool.false_ne_true (unreached.symm.trans (every _ jet))
    · rw [released]
      exact traverse (state ▸ traversing)

theorem FaultCause.pumpLoss_reaches (state : LaneState) (jet : state.jetting = true) :
    FaultCause.reaches .pumpLoss state = true := by
  cases state <;> first | rfl | exact jet
theorem FaultCause.inhibit_reaches (state : LaneState) (jet : state.jetting = true) :
    FaultCause.reaches .inhibit state = true := by
  cases state <;> first | rfl | exact jet

section
variable {off : Set Concern} (s : State)

/-- An event that withholds every jet: what it does first may leave jets, which the cause then takes away. -/
theorem State.keeps_faultBoth_of_withheld {t : State} {cause : FaultCause}
    (before : Keeps (insert (.jets .A) (insert (.jets .B) off)) s t) (lanes : ∀ L, t.lane L = s.lane L)
    (every : ∀ state : LaneState, state.jetting = true → cause.reaches state = true) :
    Keeps off s (t.faultBoth cause) := by
  have safe (L : Lane) (held : s.JetSafe L) : (t.faultBoth cause).JetSafe L := by
    refine State.jetSafe_faultBoth every ?_
    rw [State.laneState, lanes]
    exact held.2
  exact ((before.trans (State.keeps_faultBoth ..)).close fun _ => safe .A).close fun _ => safe .B

/-! ## Samples -/

theorem joinHistory_length_le {history : List Nat} (h : history.length ≤ 8) (p : Nat) :
    (joinHistory history p).length ≤ 8 := by
  unfold joinHistory historySize
  split <;> rw [List.length_append, List.length_singleton]
  · assumption
  · rw [List.length_tail]
    omega

theorem mem_joinHistory {history : List Nat} {p q : Nat} (h : q ∈ joinHistory history p) : q ∈ history ∨ q = p := by
  unfold joinHistory at h
  rw [List.mem_append, List.mem_singleton] at h
  refine h.imp_left fun old => ?_
  split at old
  · exact old
  · exact List.mem_of_mem_tail old

theorem State.judgeRipple_samples (r : Nat) :
    (s.judgeRipple r).monitor.history = s.monitor.history ∧ (s.judgeRipple r).monitor.filtered = s.monitor.filtered ∧
      (s.judgeRipple r).monitor.window = s.monitor.window := by
  unfold State.judgeRipple
  (repeat' split) <;> simp [State.raiseAll, State.raiseCell, State.countPump, State.modMonitor]

theorem State.joinWindow_samples (p : Nat) :
    (s.joinWindow p).monitor.history = s.monitor.history ∧ (s.joinWindow p).monitor.filtered = s.monitor.filtered ∧
      (s.joinWindow p).monitor.window.length ≤ 63 := by
  unfold State.joinWindow
  extract_lets window r
  split
  case isTrue few => exact ⟨rfl, rfl, Nat.le_of_lt_succ few⟩
  case isFalse =>
    obtain ⟨history, filtered, emptied⟩ :=
      (s.modMonitor fun m => { m with window := [], lastRipple := some r }).judgeRipple_samples r
    exact ⟨history, filtered, by rw [emptied]; exact Nat.zero_le _⟩

theorem State.keeps_takeSample (pressure : Nat) : Keeps off s (s.takeSample pressure) := by
  unfold State.takeSample
  extract_lets p joined windowed restarted
  refine Keeps.trans (t := restarted) (Keeps.close (c := .samples) ?_ fun _ h => ?_) (State.keeps_judgeLock _)
  · have out : Concern.samples ∈ insert .samples off := Set.mem_insert ..
    have kept : Keeps (insert .samples off) s joined :=
      s.keeps_modMonitor _ (fun _ low => low) (fun watch => absurd out watch) fun _ _ lost => lost
    refine (kept.trans (State.keeps_joinWindow _ out p)).trans ?_
    exact State.keeps_modMonitor _ _ (fun _ low => low) (fun watch => absurd out watch) fun _ _ lost => nomatch lost
  · obtain ⟨history, samples, -, -, -⟩ := h
    obtain ⟨history', filtered', window'⟩ := joined.joinWindow_samples p
    have after : restarted.monitor.history = joinHistory s.monitor.history p := history'
    refine ⟨?_, ?_, ?_, window', fun lost => nomatch lost⟩
    · rw [after]
      exact joinHistory_length_le history p
    · rw [after]
      intro q mem
      obtain old | rfl := mem_joinHistory mem
      · exact samples q old
      · exact min_le_left _ _
    · rw [after]
      exact filtered'

theorem State.keeps_validSample (pressure : Nat) : Keeps off s (s.validSample pressure) := by
  unfold State.validSample
  split
  · exact (s.keeps_takeSample pressure).trans (State.keeps_conclude _)
  · exact (s.keeps_takeSample pressure).trans (State.keeps_closeTick _)

theorem State.keeps_declareLost (reason : LossReason) : Keeps off s (s.declareLost reason) := by
  unfold State.declareLost
  split
  · exact .refl off s
  · refine (State.keeps_faultBoth_of_withheld s (t := ((s.monitorLost reason).raiseAll .pumpLoss .pumpLoss).countPump
      .addLoss) ?_ (fun L => ?_) FaultCause.pumpLoss_reaches).trans (State.keeps_conclude _)
    · refine Keeps.trans (State.keeps_modMonitor _ _ (fun _ low => low) (fun _ h => ?_) fun L watch => ?_)
        ((State.keeps_raiseAll ..).trans (State.keeps_countPump _ (PumpCounters.raised_addLoss _)))
      · exact ⟨Nat.zero_le _, nofun, by simp [State.modMonitor], Nat.zero_le _, fun _ => ⟨rfl, rfl, rfl, rfl, rfl⟩⟩
      · exact absurd (by cases L <;> simp) watch
    · rw [State.countPump_lane, State.raiseAll_lane]
      rfl

theorem State.keeps_lossExpiry : Keeps off s s.lossExpiry := by
  unfold State.lossExpiry
  split
  · exact s.keeps_declareLost _
  · exact .refl off s

theorem State.keeps_takeFeedback (pressure code : Nat) : Keeps off s (s.takeFeedback pressure code) := by
  unfold State.takeFeedback
  split
  · exact s.keeps_validSample pressure
  · refine ((s.keeps_countPump (PumpCounters.raised_addBad _)).trans ?_).trans (State.keeps_declareLost _ _)
    exact .of_view_of_counts rfl fun _ => rfl

theorem State.keeps_completeWindow (pressure : Nat) : Keeps off s (s.completeWindow pressure) := by
  unfold State.completeWindow
  split
  · exact s.keeps_validSample pressure
  · exact .refl off s

/-! ## The jet-inhibit input -/

theorem State.keeps_setInhibit {level : Bool} (jets : ∀ L, .jets L ∉ off → level = true → s.inhibit = true) :
    Keeps off s { s with inhibit := level } := by
  refine ⟨fun c hc holds => ?_⟩
  cases c with
  | store => exact ⟨holds.queue, holds.fifo, holds.room⟩
  | setpoint => exact ⟨holds.config, holds.target, holds.ramped, holds.holder, holds.queue⟩
  | samples => exact ⟨holds.history, holds.samples, holds.filtered, holds.window, holds.lost⟩
  | counters base => exact holds
  | jets L => exact ⟨fun w => holds.1 (w.imp_left (jets L hc)), holds.2⟩
  | grant L => exact holds
  | waits => exact ⟨holds.waiting, holds.once, holds.mirror, holds.leader⟩

theorem State.keeps_inhibitInput (level : Bool) : Keeps off s { s with inhibitInput := level } :=
  .of_view_of_counts rfl fun _ => rfl

theorem State.keeps_inhibitAssert : Keeps off s s.inhibitAssert := by
  unfold State.inhibitAssert
  split
  · exact .refl off s
  · refine (s.keeps_inhibitInput true).trans (State.keeps_unlessHeld _ fun _ => ?_)
    generalize ({ s with inhibitInput := true } : State) = t
    have asserted : Keeps (insert (.jets .A) (insert (.jets .B) off)) t { t with inhibit := true } :=
      t.keeps_setInhibit fun L watch => absurd (by cases L <;> simp) watch
    refine (State.keeps_faultBoth_of_withheld t (asserted.trans (State.keeps_raiseCell _ .inhibit)) (fun L => ?_)
      FaultCause.inhibit_reaches).trans (State.keeps_conclude _)
    rw [State.raiseCell_lane]
    cases L <;> rfl

theorem State.keeps_inhibitRelease : Keeps off s s.inhibitRelease := by
  unfold State.inhibitRelease
  split
  · refine (s.keeps_inhibitInput false).trans (State.keeps_unlessHeld _ fun _ => ?_)
    generalize ({ s with inhibitInput := false } : State) = t
    have released : Keeps off t { t with inhibit := false } :=
      t.keeps_setInhibit fun _ _ asserted => absurd asserted (by decide)
    exact (released.trans (State.keeps_raiseCell _ .inhibit)).trans (State.keeps_conclude _)
  · exact .refl off s

/-! ## Receiving -/

theorem State.keeps_countPort (p : Port) {f : PortCounters → PortCounters}
    (counts : Raised (s.port p).counters.values (f (s.port p).counters).values) : Keeps off s (s.countPort p f) :=
  s.keeps_modPort counts

theorem State.keeps_discardFrame (l : Link) {count : PortCounters → PortCounters}
    (counts : ∀ c : PortCounters, Raised c.values (count c).values) : Keeps off s (s.discardFrame l count) := by
  unfold State.discardFrame
  extract_lets hunting
  have kept : Keeps off s hunting := s.keeps_setRx ..
  split
  · exact kept.trans (State.keeps_countPort _ _ (counts _))
  · exact kept.trans (State.keeps_countPump _ (PumpCounters.raised_addBad _))

theorem State.keeps_acceptFrame (p : Port) (kind : Byte) (payload : List Byte) :
    Keeps off s (s.acceptFrame p kind payload) :=
  (s.keeps_countPort p (PortCounters.raised_addOk _)).trans (State.keeps_modPort_of_counters _ p _ rfl)

theorem State.keeps_acceptPumpFrame (kind : Byte) (payload : List Byte) :
    Keeps off s (s.acceptPumpFrame kind payload) := by
  unfold State.acceptPumpFrame
  split
  · exact s.keeps_takeFeedback ..
  · exact s.keeps_countPump (PumpCounters.raised_addBad _)

theorem State.keeps_judgeFrame (l : Link) (kind : Byte) (payload crc : List Byte) :
    Keeps off s (s.judgeFrame l kind payload crc) := by
  unfold State.judgeFrame
  split
  · split
    · exact (s.keeps_setRx ..).trans (State.keeps_acceptFrame ..)
    · exact (s.keeps_setRx ..).trans (State.keeps_acceptPumpFrame ..)
  · exact s.keeps_discardFrame l PortCounters.raised_addCrc

theorem State.keeps_receiveByte (l : Link) (b : Byte) : Keeps off s (s.receiveByte l b) := by
  unfold State.receiveByte
  split
  · split
    · exact s.keeps_setRx ..
    · exact .refl off s
  · exact s.keeps_setRx ..
  · split
    · exact s.keeps_discardFrame l PortCounters.raised_addCrc
    · split <;> exact s.keeps_setRx ..
  · split <;> exact s.keeps_setRx ..
  · exact s.keeps_setRx ..
  · exact s.keeps_judgeFrame ..

theorem State.keeps_gapExpiry (l : Link) : Keeps off s (s.gapExpiry l) := by
  unfold State.gapExpiry
  split
  · exact s.keeps_discardFrame l PortCounters.raised_addGap
  · exact .refl off s

theorem State.keeps_refuseFrame (p : Port) (kind : Byte) (payload : List Byte) :
    Keeps off s (s.refuseFrame p kind payload) := by
  unfold State.refuseFrame
  split
  · exact s.keeps_refuse ..
  · exact .refl off s

/-! ## STATUS, CLEAR, MASK, ROUTE and COUNTER_READ -/

theorem State.keeps_takeStatus (p : Port) : Keeps off s (s.takeStatus p) :=
  (s.keeps_reply p kindStatus .ok (s.statusBody p)).trans (.of_view_of_counts rfl fun _ => rfl)

theorem State.keeps_takeClear (p : Port) (events : BitVec 32) : Keeps off s (s.takeClear p events) := by
  unfold State.takeClear
  split
  · exact s.keeps_refuse ..
  · exact (s.keeps_modEvents ..).trans (State.keeps_reply ..)

theorem State.keeps_takeMask (p : Port) (events : BitVec 32) : Keeps off s (s.takeMask p events) := by
  unfold State.takeMask
  split
  · exact s.keeps_refuse ..
  · exact (s.keeps_modEvents ..).trans (State.keeps_reply ..)

theorem State.keeps_takeRoute (events : BitVec 16) : Keeps off s (s.takeRoute events) := by
  have routed : Keeps off s { s with route := events } := .of_view_of_counts rfl fun _ => rfl
  exact routed.trans (State.keeps_reply ..)

/-- An operation after which the view is as it was, where the counters are not looked after. -/
theorem Keeps.of_view_uncounted {s t : State} (view : t.view = s.view) (out : ∀ base, .counters base ∈ off) :
    Keeps off s t := by
  refine ⟨fun c hc holds => ?_⟩
  cases c with
  | store => exact StoreWithin.of_view holds view
  | setpoint => exact SetpointWithin.of_view holds view
  | samples => exact SamplesWithin.of_view holds view
  | counters base => exact absurd (out base) hc
  | jets L => exact State.JetSafe.of_view holds view
  | grant L => exact State.Granted.of_view holds view
  | waits => exact WaitsInOrder.of_view holds view

theorem State.clearGroup_view (group : Nat) : (s.clearGroup group).view = s.view := by
  match group with
  | 0 | 1 => exact State.modLane_view rfl
  | 2 | 3 | 4 => exact s.modPort_view ..
  | _ + 5 => rfl

/-- A clear-after-read sets counters to 0 (R192); a read alone does not. -/
theorem State.keeps_takeCounterRead (p : Port) (group flag : Nat) (cleared : flag = 1 → ∀ base, .counters base ∈ off) :
    Keeps off s (s.takeCounterRead p group flag) := by
  unfold State.takeCounterRead
  split
  · exact s.keeps_refuse ..
  · split
    · exact s.keeps_refuse ..
    · extract_lets read
      have kept : Keeps off s read := s.keeps_reply ..
      split
      case isTrue clear => exact kept.trans (.of_view_uncounted (State.clearGroup_view ..) (cleared clear))
      case isFalse => exact kept

end

end Sys2Proof.Machine

/-! PROOFS. What the table writes keep of the invariants. -/

namespace Sys2Proof.Machine

/-! ## A written item, stored and laid out again, is the item as written -/

theorem flagNat_beq_one {v : Nat} (h : v ≤ 1) : flagNat (v == 1) = v := by interval_cases v <;> rfl

theorem recipeImage_recipeOf {m : RecipeImage} (h : recipeInRange m = true) : recipeImage (recipeOf m) = m := by
  have valid : m.valid ≤ 1 := by
    simp only [recipeInRange, Bool.and_eq_true, flagOk_iff] at h
    omega
  simp only [recipeImage, recipeOf, flagNat_beq_one valid]

theorem elementImage_elementOf {m : ElementImage} (h : elementInRange m = true) : elementImage (elementOf m) = m := by
  have known : m.enabled ≤ 1 ∧ m.type ≤ 2 ∧ (m.action = 0 ∧ m.recipe = 0 ∨ m.action = 1) := by
    simp only [elementInRange, Bool.and_eq_true, Bool.or_eq_true, flagOk_iff, within_iff, beq_iff_eq] at h
    omega
  obtain ⟨enabled, type, action⟩ := known
  have code : elementTypeCode (elementTypeOf m.type) = m.type := by
    generalize m.type = v at type
    interval_cases v <;> rfl
  simp only [elementImage, elementOf, flagNat_beq_one enabled, code]
  cases m
  dsimp only at action ⊢
  obtain ⟨rfl, rfl⟩ | rfl := action <;> rfl

theorem controlImage_controlOf {m : ControlImage} (h : controlInRange m = true) : controlImage (controlOf m) = m := by
  obtain ⟨listLength, policy, defaultRecipe⟩ := m
  have flag : policy ≤ 1 := by
    simp only [controlInRange, Bool.and_eq_true, flagOk_iff] at h
    omega
  interval_cases policy <;> rfl

theorem partitionImage_partitionOf {m : PartitionImage} (h : partitionInRange m = true) :
    partitionImage (partitionOf m) = m := by
  have modes : m.modeA ≤ 1 ∧ m.modeB ≤ 1 := by
    simp only [partitionInRange, Bool.and_eq_true, flagOk_iff] at h
    omega
  have code {v : Nat} (h : v ≤ 1) : fifoModeCode (fifoModeOf v) = v := by
    interval_cases v <;> rfl
  simp only [partitionImage, partitionOf, code modes.1, code modes.2]

theorem timingImage_timingOf {m : TimingImage} (h : timingInRange m = true) : timingImage (timingOf m) = m := by
  have polarity : m.edgePolarity ≤ 2 := by
    simp only [timingInRange, Bool.and_eq_true, within_iff] at h
    omega
  have code : polarityCode (polarityOf m.edgePolarity) = m.edgePolarity := by
    generalize m.edgePolarity = v at polarity
    interval_cases v <;> rfl
  simp only [timingImage, timingOf, code]

theorem FactorTables.replace_values (t : FactorTables) (item : FactorItem) (values : List Nat)
    (defined : FactorItem.isDefined item = true) (other : FactorItem) :
    (t.replace item values).values other = if other = item then values else t.values other := by
  cases item with
  | undefined => cases defined
  | kp | ka | dq | qualityMap | kc | kr => cases other <;> rfl

section
variable {off : Set Concern} (s : State)

/-! ## The writes -/

/-- Another configuration with the same partition, within its ranges. -/
theorem State.keeps_config {config : ConfigStore} (partition : config.partition = s.config.partition)
    (within : ConfigWithin s.config → ConfigWithin config) : Keeps off s { s with config := config } := by
  have queueRegion (L : Lane) : ({ s with config := config } : State).queueRegion L = s.queueRegion L := by
    cases L <;> simp only [State.queueRegion, partition]
  have fifoRegion (L : Lane) : ({ s with config := config } : State).fifoRegion L = s.fifoRegion L := by
    cases L <;> simp only [State.fifoRegion, partition]
  refine ⟨fun c hc holds => ?_⟩
  cases c with
  | store =>
    refine ⟨fun L => ?_, fun L => ?_, fun L => ?_⟩
    · rw [queueRegion]
      exact holds.queue L
    · rw [fifoRegion]
      exact holds.fifo L
    · rw [fifoRegion]
      exact holds.room L
  | setpoint => exact ⟨within holds.config, holds.target, holds.ramped, holds.holder, holds.queue⟩
  | samples => exact ⟨holds.history, holds.samples, holds.filtered, holds.window, holds.lost⟩
  | counters base => exact holds
  | jets L => exact holds
  | grant L => exact holds
  | waits => exact ⟨holds.waiting, holds.once, holds.mirror, holds.leader⟩

theorem State.keeps_takeWrite {config : ConfigStore} (partition : config.partition = s.config.partition)
    (within : ConfigWithin s.config → ConfigWithin config) : Keeps off s (s.takeWrite config) :=
  (s.keeps_config partition within).trans (State.keeps_reply ..)

theorem State.keeps_refuseWrite (result : Result) : Keeps off s (s.refuseWrite result) := s.keeps_refuse ..

theorem State.keeps_writeRecipe (index : Nat) (m : RecipeImage) : Keeps off s (s.writeRecipe index m) := by
  unfold State.writeRecipe
  split
  · exact s.keeps_refuseWrite _
  · split
    · exact s.keeps_refuseWrite _
    · split
      case isTrue => exact s.keeps_refuseWrite _
      case isFalse ranged =>
        have ranged : recipeInRange m = true := by simpa using ranged
        refine s.keeps_takeWrite rfl fun h => { h with
          recipeCount := List.length_set.trans h.recipeCount, recipes := fun r mem => ?_ }
        obtain old | rfl := List.mem_or_eq_of_mem_set mem
        · exact h.recipes r old
        · rwa [recipeImage_recipeOf ranged]

theorem State.keeps_writeElement (index : Nat) (m : ElementImage) : Keeps off s (s.writeElement index m) := by
  unfold State.writeElement
  split
  · exact s.keeps_refuseWrite _
  · split
    · exact s.keeps_refuseWrite _
    · split
      case isTrue => exact s.keeps_refuseWrite _
      case isFalse ranged =>
        split
        case isTrue => exact s.keeps_refuseWrite _
        case isFalse ordered =>
          have ranged : elementInRange m = true := by simpa using ranged
          refine s.keeps_takeWrite rfl fun h => { h with
            elementCount := List.length_set.trans h.elementCount, elements := fun e mem => ?_ }
          obtain old | rfl := List.mem_or_eq_of_mem_set mem
          · exact h.elements e old
          · rw [elementImage_elementOf ranged]
            exact ⟨ranged, by simpa using ordered⟩

theorem State.keeps_writeControl (index : Nat) (m : ControlImage) : Keeps off s (s.writeControl index m) := by
  unfold State.writeControl
  split
  · exact s.keeps_refuseWrite _
  · split
    · exact s.keeps_refuseWrite _
    · split
      case isTrue => exact s.keeps_refuseWrite _
      case isFalse ranged =>
        have ranged : controlInRange m = true := by simpa using ranged
        exact s.keeps_takeWrite rfl fun h => { h with control := by rwa [controlImage_controlOf ranged] }

theorem State.keeps_writeTiming (index : Nat) (m : TimingImage) : Keeps off s (s.writeTiming index m) := by
  unfold State.writeTiming
  split
  · exact s.keeps_refuseWrite _
  · split
    · exact s.keeps_refuseWrite _
    · split
      case isTrue => exact s.keeps_refuseWrite _
      case isFalse ranged =>
        split
        case isTrue => exact s.keeps_refuseWrite _
        case isFalse ordered =>
          have ranged : timingInRange m = true := by simpa using ranged
          exact s.keeps_takeWrite rfl fun h => { h with
            timing := by rwa [timingImage_timingOf ranged], thresholds := by simpa [timingOf] using ordered }

theorem State.keeps_writeFactorTable (item : FactorItem) (index : Nat) (values : List Nat) :
    Keeps off s (s.writeFactorTable item index values) := by
  unfold State.writeFactorTable
  split
  case isTrue => exact s.keeps_refuseWrite _
  case isFalse defined =>
    split
    case isTrue => exact s.keeps_refuseWrite _
    case isFalse count =>
      split
      · exact s.keeps_refuseWrite _
      · split
        · exact s.keeps_refuseWrite _
        · split
          case isTrue => exact s.keeps_refuseWrite _
          case isFalse ranged =>
            split
            case isTrue => exact s.keeps_refuseWrite _
            case isFalse ordered =>
              refine s.keeps_takeWrite rfl fun h => { h with tables := fun other known => ?_ }
              rw [FactorTables.replace_values _ _ _ (by simpa using defined)]
              split
              case isTrue own =>
                subst own
                exact ⟨not_not.mp count, by simpa using ranged, by simpa using ordered⟩
              case isFalse => exact h.tables other known

/-! ## The partition -/

@[simp] theorem State.moveFifo_config (L : Lane) (before after : Region) :
    (s.moveFifo L before after).config = s.config := State.config_of_base (s.moveFifo_base L before after)

theorem State.moveFifo_lane_of_ne {L M : Lane} (other : M ≠ L) (before after : Region) :
    (s.moveFifo L before after).lane M = s.lane M := by
  unfold State.moveFifo
  extract_lets discarded emptied
  (repeat' split) <;> simp [emptied, State.countLane, State.modLane_lane_of_ne _ other]

theorem State.moveFifo_queue (L M : Lane) (before after : Region) :
    ((s.moveFifo L before after).lane M).queue = (s.lane M).queue := by
  unfold State.moveFifo
  extract_lets discarded emptied
  (repeat' split) <;> cases L <;> cases M <;> simp [emptied, State.countLane] <;> rfl

theorem State.moveFifo_fifo (L : Lane) (before after : Region) :
    ((s.moveFifo L before after).lane L).fifo = if before = after then (s.lane L).fifo else [] := by
  unfold State.moveFifo
  extract_lets discarded emptied
  split
  · rfl
  · split <;> simp [emptied, State.countLane]

theorem State.keeps_moveFifo (L : Lane) (before after : Region) : Keeps off s (s.moveFifo L before after) := by
  unfold State.moveFifo
  extract_lets discarded emptied
  split
  · exact .refl off s
  · have kept : Keeps off s emptied := (s.keeps_modFifo L (fun _ => []) fun _ _ => Nat.zero_le _).trans
      (State.keeps_countLane _ L (LaneCounters.raised_addLost _ _))
    split
    · exact kept.trans (State.keeps_raiseHead ..)
    · exact kept

end

end Sys2Proof.Machine

/-! PROOFS. What the partition write, MODE, RESET, the inputs and the tick keep of the invariants. -/

namespace Sys2Proof.Machine

section
variable {off : Set Concern} (s : State)

/-! ## The partition -/

theorem State.not_ready_of_no_job {s : State} (closed : s.anyJobOpen = false) (L : Lane) : s.laneState L ≠ .ready := by
  intro ready
  have opened : s.anyJobOpen = true := by
    rw [State.anyJobOpen_iff]
    cases L with
    | A => exact .inl (by simp [State.jobless, ready])
    | B => exact .inr (by simp [State.jobless, ready])
  exact Bool.false_ne_true (closed.symm.trans opened)

theorem partition_sizes {p : Partition} (ranged : partitionInRange (partitionImage p) = true) :
    0 < p.queueA.size ∧ 0 < p.queueB.size ∧ 1 ≤ p.fifoA.size ∧ 1 ≤ p.fifoB.size := by
  simp only [partitionInRange, partitionImage, regionInRange, Bool.and_eq_true, within_iff] at ranged
  omega

/-- Another configuration within its ranges; the store is then out of order until it is moved. -/
theorem State.keeps_config_unstored (out : .store ∈ off) {config : ConfigStore}
    (within : ConfigWithin s.config → ConfigWithin config) : Keeps off s { s with config := config } := by
  refine ⟨fun c hc holds => ?_⟩
  cases c with
  | store => exact absurd out hc
  | setpoint => exact ⟨within holds.config, holds.target, holds.ramped, holds.holder, holds.queue⟩
  | samples => exact ⟨holds.history, holds.samples, holds.filtered, holds.window, holds.lost⟩
  | counters base => exact holds
  | jets L => exact holds
  | grant L => exact holds
  | waits => exact ⟨holds.waiting, holds.once, holds.mirror, holds.leader⟩

theorem State.emptyQueue_config (L : Lane) : (s.emptyQueue L).config = s.config := s.modLane_config L _

theorem State.emptyQueue_queue (L M : Lane) :
    ((s.emptyQueue L).lane M).queue = if M = L then .emptied (s.queueRegion L) else (s.lane M).queue := by
  cases L <;> cases M <;> rfl

theorem State.emptyQueue_fifo (L M : Lane) : ((s.emptyQueue L).lane M).fifo = (s.lane M).fifo := by
  cases L <;> cases M <;> rfl

/-- The configuration with another partition. -/
def ConfigStore.withPartition (c : ConfigStore) (p : Partition) : ConfigStore := { c with partition := p }

theorem State.repartition_eq (p : Partition) :
    s.repartition p = ((((s.takeWrite (s.config.withPartition p)).emptyQueue .A).emptyQueue .B).moveFifo .A
      s.config.partition.fifoA p.fifoA).moveFifo .B s.config.partition.fifoB p.fifoB := rfl

theorem State.takeWrite_config (config : ConfigStore) : (s.takeWrite config).config = config :=
  State.config_of_base (State.reply_base ..)

theorem State.takeWrite_lane (config : ConfigStore) (L : Lane) : (s.takeWrite config).lane L = s.lane L := by
  rw [State.takeWrite, State.reply_lane]
  cases L <;> rfl

theorem State.repartition_config (p : Partition) : (s.repartition p).config = s.config.withPartition p := by
  rw [State.repartition_eq, State.moveFifo_config, State.moveFifo_config, State.emptyQueue_config,
    State.emptyQueue_config, State.takeWrite_config]

theorem State.repartition_queue (p : Partition) (L : Lane) :
    ((s.repartition p).lane L).queue = .emptied ((s.repartition p).queueRegion L) := by
  have region (t : State) (config : t.config = s.config.withPartition p) :
      t.queueRegion L = (s.repartition p).queueRegion L := by
    cases L <;> simp only [State.queueRegion, State.repartition_config, config]
  rw [State.repartition_eq, State.moveFifo_queue, State.moveFifo_queue, State.emptyQueue_queue,
    State.emptyQueue_queue, ← State.repartition_eq]
  cases L with
  | A => rw [if_neg (by decide), if_pos rfl, region _ (s.takeWrite_config _)]
  | B => rw [if_pos rfl, region _ ((State.emptyQueue_config ..).trans (s.takeWrite_config _))]

theorem State.repartition_fifo (p : Partition) (L : Lane) :
    ((s.repartition p).lane L).fifo =
      if s.fifoRegion L = (s.repartition p).fifoRegion L then (s.lane L).fifo else [] := by
  have region : (s.repartition p).fifoRegion L = match L with | .A => p.fifoA | .B => p.fifoB := by
    cases L <;> simp only [State.fifoRegion, State.repartition_config] <;> rfl
  rw [region, State.repartition_eq]
  cases L with
  | A =>
    rw [State.moveFifo_lane_of_ne _ (by decide), State.moveFifo_fifo, State.emptyQueue_fifo, State.emptyQueue_fifo,
      State.takeWrite_lane]
    rfl
  | B =>
    rw [State.moveFifo_fifo, State.moveFifo_lane_of_ne _ (by decide), State.emptyQueue_fifo, State.emptyQueue_fifo,
      State.takeWrite_lane]
    rfl

theorem State.keeps_repartition {p : Partition} (closed : s.anyJobOpen = false)
    (ranged : partitionInRange (partitionImage p) = true)
    (regions : regionsApart p.queueA p.queueB p.fifoA p.fifoB = true) : Keeps off s (s.repartition p) := by
  refine Keeps.close (c := .store) ?_ fun _ h => ?_
  · have out : Concern.store ∈ insert .store off := Set.mem_insert ..
    rw [State.repartition_eq]
    have of_written : Keeps (insert .store off) s (s.takeWrite (s.config.withPartition p)) :=
      (s.keeps_config_unstored (config := s.config.withPartition p) out fun h =>
        { h with partition := ranged, apart := regions }).trans
        (State.keeps_reply ..)
    have unready (L : Lane) : (s.takeWrite (s.config.withPartition p)).laneState L ≠ .ready := by
      rw [State.laneState, State.takeWrite_lane]
      exact State.not_ready_of_no_job closed L
    refine (((of_written.trans (State.keeps_emptyQueue _ fun _ => State.unheld_of_laneState (unready .A))).trans
      (State.keeps_emptyQueue _ fun _ => State.unheld_of_laneState ?_)).trans (State.keeps_moveFifo ..)).trans
      (State.keeps_moveFifo ..)
    rw [State.emptyQueue_laneState]
    exact unready .B
  · obtain ⟨queueA, queueB, fifoA, fifoB⟩ := partition_sizes ranged
    have config := s.repartition_config p
    have room (L : Lane) : 1 ≤ ((s.repartition p).fifoRegion L).size := by
      cases L <;> simpa only [State.fifoRegion, config, ConfigStore.withPartition]
    refine ⟨fun L => ?_, fun L => ?_, room⟩
    · rw [State.repartition_queue]
      refine ringWithin_emptied ?_
      cases L <;> simpa only [State.queueRegion, config, ConfigStore.withPartition]
    · rw [State.repartition_fifo]
      split
      case isTrue same => exact same ▸ h.fifo L
      case isFalse => exact Nat.zero_le _

theorem State.keeps_writePartition (index : Nat) (m : PartitionImage) : Keeps off s (s.writePartition index m) := by
  unfold State.writePartition
  split
  · exact s.keeps_refuseWrite _
  · split
    case isTrue => exact s.keeps_refuseWrite _
    case isFalse closed =>
      split
      case isTrue => exact s.keeps_refuseWrite _
      case isFalse ranged =>
        split
        case isTrue => exact s.keeps_refuseWrite _
        case isFalse regions =>
          have ranged : partitionInRange m = true := by simpa using ranged
          exact s.keeps_repartition (Bool.eq_false_iff.mpr closed) (by rwa [partitionImage_partitionOf ranged])
            (by simpa [partitionOf] using regions)

end

end Sys2Proof.Machine

/-! PROOFS. What MODE, RESET, the reset input, power-on and the tick keep of the invariants. -/

namespace Sys2Proof.Machine

section
variable {off : Set Concern} (s : State)

/-! ## MODE -/

theorem State.keeps_mirror (out : .waits ∈ off) (mirror : Bool) : Keeps off s { s with mirror := mirror } := by
  refine ⟨fun c hc holds => ?_⟩
  cases c with
  | store => exact ⟨holds.queue, holds.fifo, holds.room⟩
  | setpoint => exact ⟨holds.config, holds.target, holds.ramped, holds.holder, holds.queue⟩
  | samples => exact ⟨holds.history, holds.samples, holds.filtered, holds.window, holds.lost⟩
  | counters base => exact holds
  | jets L => exact holds
  | grant L => exact holds
  | waits => exact absurd out hc

/-- With no lane in READY the pierce queue in order is empty. -/
theorem WaitsInOrder.queue_nil {s : State} (h : WaitsInOrder s) (unready : ∀ L, s.laneState L ≠ .ready) :
    s.arbiter.queue = [] := by
  refine List.eq_nil_iff_forall_not_mem.mpr fun e mem => ?_
  exact unready e.lane (h.waiting e mem).1

/-- With no entry the pierce queue is in order where the lanes agree with the mode. -/
theorem waitsInOrder_of_nil {s : State} (empty : s.arbiter.queue = [])
    (mirror : s.mirror = true ↔ s.laneState .B = .mirrored) (leader : s.laneState .A ≠ .mirrored) : WaitsInOrder s := by
  refine (waitsInOrder_iff s).mpr ⟨?_, mirror, leader⟩
  rw [empty]
  exact ⟨nofun, List.nodup_nil⟩

/-- A lane is set to a calm state, while the pierce queue is not looked after. -/
theorem State.keeps_modLane_calm {L : Lane} {f : LaneUnit → LaneUnit} (out : .waits ∈ off)
    (queue : RingWithin (s.queueRegion L) (s.lane L).queue → RingWithin (s.queueRegion L) (f (s.lane L)).queue)
    (fifo : (f (s.lane L)).fifo.length ≤ (s.lane L).fifo.length)
    (counts : (f (s.lane L)).counters = (s.lane L).counters) (calm : (f (s.lane L)).seq.state.calm = true) :
    Keeps off s (s.modLane L f) := by
  rw [← State.modLane_laneState] at calm
  exact .modLane queue (fun _ within => fifo.trans within) (counts ▸ Raised.refl _)
    (fun _ _ => State.jetSafe_of_calm calm) (fun _ _ => State.granted_of_calm calm)
    (fun watch => absurd out watch) fun watch => absurd out watch

theorem State.keeps_mirrorOn (leader : s.laneState .A = .closed)
    (follower : s.laneState .B = .closed ∨ s.laneState .B = .mirrored) : Keeps off s s.mirrorOn := by
  have out : Concern.waits ∈ insert .waits off := Set.mem_insert ..
  refine Keeps.trans (Keeps.close (c := .waits) ?_ fun _ h => ?_) (State.keeps_conclude _)
  · refine ((s.keeps_mirror out true).trans (State.keeps_emptyQueue _ fun watch => absurd out watch)).trans
      (State.keeps_modLane_calm _ out id (Nat.zero_le _) rfl rfl)
  · refine waitsInOrder_of_nil ?_ ?_ ?_
    · rw [State.modLane_arbiter, State.emptyQueue_arbiter]
      refine h.queue_nil fun L => ?_
      cases L with
      | A => simp [leader]
      | B => obtain h | h := follower <;> simp [h]
    · rw [State.modLane_laneState, State.modLane_mirror, State.emptyQueue, State.modQueue, State.modLane_mirror]
      exact iff_of_true rfl rfl
    · rw [State.modLane_laneState_of_ne (by decide), State.emptyQueue_laneState]
      change s.laneState .A ≠ _
      simp [leader]

theorem State.keeps_mirrorOff (leader : s.laneState .A = .closed) (on : s.mirror = true) : Keeps off s s.mirrorOff := by
  have out : Concern.waits ∈ insert .waits off := Set.mem_insert ..
  refine Keeps.trans (Keeps.close (c := .waits) ?_ fun _ h => ?_) (State.keeps_conclude _)
  · exact ((s.keeps_mirror out false).trans (State.keeps_stopUnit _ .B)).trans
      (State.keeps_modLane_calm _ out id le_rfl rfl rfl)
  · have view := ({ s with mirror := false } : State).stopUnit_view .B
    have mirrored : s.laneState .B = .mirrored := h.mirror.mp on
    refine waitsInOrder_of_nil ?_ ?_ ?_
    · rw [State.modSeq_arbiter]
      have waits := State.view_waits view
      rw [show ({ s with mirror := false } : State).arbiter.queue = [] from h.queue_nil fun L => by
        cases L <;> simp [leader, mirrored]] at waits
      exact List.map_eq_nil_iff.mp waits
    · rw [State.modSeq_laneState, State.modSeq_mirror, State.view_mirror view]
      exact iff_of_false (show false ≠ true by decide) (show LaneState.closed ≠ .mirrored by decide)
    · rw [State.modSeq, State.modLane_laneState_of_ne (by decide), State.view_laneState view]
      change s.laneState .A ≠ _
      simp [leader]

theorem State.keeps_takeMode (mode : Nat) : Keeps off s (s.takeMode mode) := by
  unfold State.takeMode
  split
  · split
    case isTrue => exact s.keeps_refuse ..
    case isFalse leader =>
      extract_lets replied
      have kept : Keeps off s replied := s.keeps_reply ..
      split
      case isTrue on =>
        refine kept.trans (State.keeps_mirrorOff _ (by simpa [replied] using leader) ?_)
        exact (State.mirror_of_base (s.reply_base ..)).trans on
      case isFalse => exact kept
  · split
    case isTrue => exact s.keeps_refuse ..
    case isFalse lanes =>
      extract_lets replied
      have kept : Keeps off s replied := s.keeps_reply ..
      split
      · exact kept
      · simp only [not_or, not_and_or, not_not] at lanes
        exact kept.trans (State.keeps_mirrorOn _ (by simpa [replied] using lanes.1) (by simpa [replied] using lanes.2))
  · exact s.keeps_refuse ..

/-! ## RESET -/

theorem State.keeps_resetEvents : Keeps off s s.resetEvents := by
  have kept := ((s.keeps_modEvents (off := off) .A fun _ => .reset .A).trans
    (State.keeps_modEvents _ .B fun _ => .reset .B)).trans (State.keeps_modEvents _ .C fun _ => .reset .C)
  exact kept.trans (.of_view_of_counts rfl fun _ => rfl)

theorem State.resetEvents_arbiter : s.resetEvents.arbiter = s.arbiter := rfl
theorem State.resetEvents_laneState (L : Lane) : s.resetEvents.laneState L = s.laneState L := by cases L <;> rfl

theorem State.keeps_restart : Keeps off s s.restart := by
  have out : Concern.waits ∈ insert .waits off := Set.mem_insert ..
  unfold State.restart
  extract_lets lanes t
  have laneA : lanes.laneState .A = .closed := rfl
  have laneB : lanes.laneState .B = .closed := rfl
  have kept : Keeps (insert .waits off) s lanes := by
    refine ((s.keeps_modLane_calm out (fun ring => ringWithin_emptied ring.size_pos) (Nat.zero_le _) rfl rfl).trans
      (State.keeps_modLane_calm _ out ?_ (Nat.zero_le _) rfl rfl)).trans
      (State.keeps_modArbiter _ _ (fun _ h => ?_) (fun M _ _ => ?_) fun watch => absurd out watch)
    · exact fun ring => ringWithin_emptied ring.size_pos
    · exact ⟨h.config, h.target, h.ramped, nofun, nofun⟩
    · refine State.granted_of_calm ?_
      cases M <;> rfl
  have kept_target : Keeps (insert .waits off) s t :=
    (kept.trans (lanes.keeps_setTarget fun _ => Nat.zero_le _)).trans (State.keeps_resetEvents _)
  have empty : t.arbiter.queue = [] := by
    change (lanes.setTarget 0).resetEvents.arbiter.queue = []
    rw [State.resetEvents_arbiter, State.setTarget_queue]
    rfl
  have closed (L : Lane) : t.laneState L = .closed := by
    change (lanes.setTarget 0).resetEvents.laneState L = .closed
    rw [State.resetEvents_laneState, State.setTarget_laneState]
    cases L
    · exact laneA
    · exact laneB
  clear_value t
  have timed : Keeps (insert .waits off) { t with mirror := false } { t with mirror := false, timestamp := 0 } :=
    .of_view_of_counts rfl fun _ => rfl
  refine ((kept_target.trans (t.keeps_mirror out false)).trans timed).close fun _ _ => ?_
  refine waitsInOrder_of_nil empty (iff_of_false (show false ≠ true by decide) ?_) ?_
  · change t.laneState .B ≠ _
    simp [closed]
  · change t.laneState .A ≠ _
    simp [closed]

theorem State.keeps_takeReset : Keeps off s s.takeReset :=
  ((s.keeps_reply ..).trans (State.keeps_restart _)).trans (State.keeps_closeTick _)

end

/-! ## The part as it starts -/

theorem configWithin_powerOn : ConfigWithin .powerOn where
  recipeCount := rfl
  recipes := by decide
  elementCount := rfl
  elements := by decide
  control := by decide
  partition := by decide
  apart := by decide
  timing := by decide
  thresholds := by decide
  tables item defined := by
    cases item with
    | undefined => cases defined
    | kp | ka | dq | qualityMap | kc | kr => decide

section
variable {off : Set Concern} (inhibitInput : Bool) (flowA flowB : Level) (pending : List Instr) (freeUsed : Nat)

theorem State.started_storeWithin : StoreWithin (.started inhibitInput flowA flowB pending freeUsed) := by
  refine ⟨fun L => ?_, fun L => ?_, fun L => ?_⟩
  · cases L with
    | A => exact ringWithin_emptied (show 0 < Partition.powerOn.queueA.size by decide)
    | B => exact ringWithin_emptied (show 0 < Partition.powerOn.queueB.size by decide)
  · cases L <;> exact Nat.zero_le _
  · cases L with
    | A => exact show 1 ≤ Partition.powerOn.fifoA.size by decide
    | B => exact show 1 ≤ Partition.powerOn.fifoB.size by decide
theorem State.started_setpointWithin : SetpointWithin (.started inhibitInput flowA flowB pending freeUsed) :=
  ⟨configWithin_powerOn, Nat.zero_le _, Nat.zero_le _, nofun, nofun⟩
theorem State.started_samplesWithin : SamplesWithin (.started inhibitInput flowA flowB pending freeUsed) :=
  ⟨Nat.zero_le _, nofun, show 0 = 0 / 0 by decide, Nat.zero_le _, fun _ => ⟨rfl, rfl, rfl, rfl, rfl⟩⟩
theorem State.started_calm (L : Lane) :
    ((State.started inhibitInput flowA flowB pending freeUsed).laneState L).calm = true := by cases L <;> rfl
theorem State.started_waitsInOrder : WaitsInOrder (.started inhibitInput flowA flowB pending freeUsed) :=
  waitsInOrder_of_nil rfl (iff_of_false (show false ≠ true by decide) (show LaneState.closed ≠ .mirrored by decide))
    (show LaneState.closed ≠ .mirrored by decide)
theorem State.started_countersWithin : CountersWithin (.started inhibitInput flowA flowB pending freeUsed) := by
  intro n mem
  obtain rfl : n = 0 := by simpa [State.counters, State.groupValues, State.started, LaneUnit.powerOn, PortUnit.powerOn,
    LaneCounters.values, PortCounters.values, PumpCounters.values, LaneCounters.zero, PortCounters.zero,
    PumpCounters.zero] using mem
  exact Nat.zero_le _

/-- The part as it starts meets every concern but the counters'. -/
theorem State.keeps_started (s : State) (out : ∀ base, .counters base ∈ off) :
    Keeps off s (.started inhibitInput flowA flowB pending freeUsed) := by
  refine ⟨fun c hc _ => ?_⟩
  cases c with
  | store => exact State.started_storeWithin ..
  | setpoint => exact State.started_setpointWithin ..
  | samples => exact State.started_samplesWithin ..
  | counters base => exact absurd (out base) hc
  | jets L => exact State.jetSafe_of_calm (State.started_calm ..)
  | grant L => exact State.granted_of_calm (State.started_calm ..)
  | waits => exact State.started_waitsInOrder ..

end

theorem State.keeps_holdAtRest {off : Set Concern} (s : State) (out : ∀ base, .counters base ∈ off) : Keeps off s s.holdAtRest := by
  have started : Keeps off s s.startOver := s.keeps_started (out := out) ..
  have held : Keeps off s.startOver { s.startOver with resetInput := true } := .of_view_of_counts rfl fun _ => rfl
  exact started.trans held

end Sys2Proof.Machine

/-! PROOFS. What every command keeps of the invariants, and that every step keeps them (O54 to O60). -/

namespace Sys2Proof.Machine

section
variable {off : Set Concern} (s : State)

/-! ## The tick -/

theorem State.keeps_takeDue : Keeps off s s.takeDue := by
  unfold State.takeDue
  extract_lets links pump eachLane lanes
  have of_links : Keeps off s links := (((s.keeps_gapExpiry .A).trans (State.keeps_gapExpiry _ .B)).trans
    (State.keeps_gapExpiry _ .C)).trans (State.keeps_gapExpiry _ .pump)
  have of_pump : Keeps off s pump :=
    (of_links.trans (State.keeps_lossExpiry _)).trans (State.keeps_settleExpiry _)
  have fold (expiries : List (State → Lane → State)) (each : ∀ f ∈ expiries, ∀ t L, Keeps off t (f t L)) (t : State) :
      Keeps off t (expiries.foldl eachLane t) := by
    induction expiries generalizing t with
    | nil => exact .refl off t
    | cons f fs ih =>
      obtain ⟨first, rest⟩ := List.forall_mem_cons.mp each
      exact ((first t .A).trans (first _ .B)).trans (ih rest _)
  refine (of_pump.trans (fold _ ?_ pump)).trans (State.keeps_evaluation _)
  simp only [List.forall_mem_cons, List.not_mem_nil, false_imp_iff, implies_true, and_true]
  exact ⟨State.keeps_lockTimeoutExpiry, State.keeps_leadExpiry, State.keeps_dwellExpiry, State.keeps_stallExpiry,
    State.keeps_purgeExpiry, State.keeps_starvationExpiry, State.keeps_pierceWaitExpiry, State.keeps_slotExpiry,
    State.keeps_filterExpiry, State.keeps_graceExpiry, State.keeps_windowExpiry⟩

theorem Timer.tick_isSome (t : Timer) : t.tick.isSome = t.isSome := by
  unfold Timer.tick
  split <;> rfl

theorem State.keeps_tickTimers : Keeps off s s.tickTimers := by
  refine .of_view_of_counts ?_ fun group => ?_
  · have lanes (L : Lane) : (s.tickTimers.lane L).view = (s.lane L).view := by cases L <;> rfl
    have waiting : s.tickTimers.arbiter.queue.map (fun e => (e.lane, e.pressure)) =
        s.arbiter.queue.map fun e => (e.lane, e.pressure) := by
      simp [State.tickTimers, Function.comp_def]
    have settling : s.tickTimers.monitor.settleTimer.isSome = s.monitor.settleTimer.isSome := Timer.tick_isSome _
    simp only [State.view, lanes, waiting, settling]
    rfl
  · match group with
    | 0 | 1 | 2 | 3 | 4 | _ + 5 => rfl

theorem State.keeps_tickTimestamp : Keeps off s s.tickTimestamp := by
  unfold State.tickTimestamp
  split
  · exact .of_view_of_counts rfl fun _ => rfl
  · have wrapped : Keeps off s { s with timestamp := 0 } := .of_view_of_counts rfl fun _ => rfl
    exact wrapped.trans (State.keeps_raiseCell ..)

theorem State.keeps_tickPeriod : Keeps off s s.tickPeriod := .of_view_of_counts rfl fun _ => rfl

theorem State.keeps_tick : Keeps off s s.tick := by
  unfold State.tick
  extract_lets ticked
  have kept : Keeps off s ticked := ((((s.keeps_takeDue.trans (State.keeps_countTick _)).trans
    (State.keeps_tickTimers _)).trans (State.keeps_tickTimestamp _)).trans (State.keeps_tickPeriod _)).trans
    (State.keeps_rampTick _)
  clear_value ticked
  have due : Keeps off ticked { ticked with valveDue := true } := .of_view_of_counts rfl fun _ => rfl
  exact (kept.trans due).trans (State.keeps_closeTick _)

theorem State.keeps_wrapTick : Keeps off s s.wrapTick := by
  unfold State.wrapTick
  split
  · exact s.keeps_tick
  · exact .refl off s

/-! ## Requests that a port hands on -/

theorem State.keeps_handOn (p : Port) (c : Instr) {take : State → State} (each : ∀ s, Keeps off s (take s)) :
    Keeps off s (s.handOn p c take) := by
  unfold State.handOn
  refine s.keeps_unlessHeld fun _ => ?_
  split
  · exact each s
  · split
    · exact (s.keeps_modPort_of_counters p _ rfl).trans (each _)
    · split
      · exact .refl off s
      · exact s.keeps_modPort_of_counters p _ rfl

theorem State.keeps_answerRead (item index : Nat) (widths values : List Nat) :
    Keeps off s (s.answerRead item index widths values) := s.keeps_reply ..
theorem State.keeps_refuseRead : Keeps off s s.refuseRead := s.keeps_refuse ..

theorem State.keeps_readRecipe (index : Nat) : Keeps off s (s.readRecipe index) := by
  unfold State.readRecipe
  split
  · exact s.keeps_refuseRead
  · exact s.keeps_answerRead ..
theorem State.keeps_readSelection (item : SelectionItem) (index : Nat) : Keeps off s (s.readSelection item index) := by
  unfold State.readSelection
  split
  · split
    · exact s.keeps_refuseRead
    · exact s.keeps_answerRead ..
  · split
    · exact s.keeps_refuseRead
    · exact s.keeps_answerRead ..
theorem State.keeps_readFactorTable (item : FactorItem) (index : Nat) : Keeps off s (s.readFactorTable item index) := by
  unfold State.readFactorTable
  split
  · exact s.keeps_refuseRead
  · split
    · exact s.keeps_refuseRead
    · exact s.keeps_answerRead ..
theorem State.keeps_readPartition (index : Nat) : Keeps off s (s.readPartition index) := by
  unfold State.readPartition
  split
  · exact s.keeps_refuseRead
  · exact s.keeps_answerRead ..
theorem State.keeps_readTiming (index : Nat) : Keeps off s (s.readTiming index) := by
  unfold State.readTiming
  split
  · exact s.keeps_refuseRead
  · exact s.keeps_answerRead ..

/-! ## Every command -/

/-- The commands that may set counters to 0: a clear-after-read, the reset input and power-on (R192, R194). -/
def clearsCounters : Instr → Bool
  | .counterReadClear _ _ => true
  | .counterRead _ _ flag => flag == 1
  | .powerOn => true
  | .resetInputAssert => true
  | _ => false

theorem Keeps.of_next {s t u : State} (h : Keeps off s u)
    (ran : (.next u : Host.Outcome State Fault Refusal) = .next t) : Keeps off s t :=
  Host.Outcome.next.inj ran ▸ h

/-- Every command keeps every concern, the counters' only if it clears none. -/
theorem exec_keeps {c : Instr} {s t : State} (ran : exec c s = .next t)
    (cleared : clearsCounters c = true → ∀ base, .counters base ∈ off) : Keeps off s t := by
  have request {p : Port} {take : State → State} (each : ∀ s, Keeps off s (take s)) :
      Keeps off s (s.handOn p c take) := s.keeps_handOn p c each
  have event {take : State → State} (each : ∀ s, Keeps off s (take s)) : Keeps off s (s.unlessHeld take) :=
    s.keeps_unlessHeld fun _ => each s
  cases c with
  | jobOpen lane material thickness => exact (request fun s => s.keeps_takeJobOpen ..).of_next ran
  | jobClose lane => exact (request fun s => s.keeps_takeJobClose lane).of_next ran
  | post lane segId body => exact (request fun s => s.keeps_takePost ..).of_next ran
  | next lane => exact (request fun s => s.keeps_takeNext lane).of_next ran
  | releaseAttempt lane =>
    exact (event fun s => (s.keeps_attempt lane false).trans (State.keeps_conclude _)).of_next ran
  | pierceGrant => exact (event State.keeps_conclude).of_next ran
  | done lane segId => exact (request fun s => s.keeps_takeDone ..).of_next ran
  | resume lane => exact (request fun s => s.keeps_takeResume lane).of_next ran
  | abort source => exact (request fun s => s.keeps_takeAbort source).of_next ran
  | complRead lane n => exact (request fun s => s.keeps_takeComplRead ..).of_next ran
  | status port => exact (request fun s => s.keeps_takeStatus port).of_next ran
  | clear port events => exact (request fun s => s.keeps_takeClear ..).of_next ran
  | mask port events => exact (request fun s => s.keeps_takeMask ..).of_next ran
  | route events => exact (request fun s => s.keeps_takeRoute events).of_next ran
  | counterRead port group flag =>
    exact (request fun s => s.keeps_takeCounterRead port group flag fun one => cleared (by
      rw [one]; rfl)).of_next ran
  | counterReadClear port group =>
    exact (request fun s => s.keeps_takeCounterRead port group 1 fun _ => cleared rfl).of_next ran
  | tableWriteRecipe index image => exact (request fun s => s.keeps_writeRecipe ..).of_next ran
  | tableWriteElement index image => exact (request fun s => s.keeps_writeElement ..).of_next ran
  | tableWriteControl index image => exact (request fun s => s.keeps_writeControl ..).of_next ran
  | tableWriteFactorTable item index values => exact (request fun s => s.keeps_writeFactorTable ..).of_next ran
  | tableWritePartition index image => exact (request fun s => s.keeps_writePartition ..).of_next ran
  | tableWriteTiming index image => exact (request fun s => s.keeps_writeTiming ..).of_next ran
  | tableReadRecipe index => exact (request fun s => s.keeps_readRecipe index).of_next ran
  | tableReadSelection item index => exact (request fun s => s.keeps_readSelection ..).of_next ran
  | tableReadFactorTable item index => exact (request fun s => s.keeps_readFactorTable ..).of_next ran
  | tableReadPartition index => exact (request fun s => s.keeps_readPartition index).of_next ran
  | tableReadTiming index => exact (request fun s => s.keeps_readTiming index).of_next ran
  | modeMirrorOn mode => exact (request fun s => s.keeps_takeMode mode).of_next ran
  | modeMirrorOff => exact (request fun s => s.keeps_takeMode 0).of_next ran
  | reset => exact (request State.keeps_takeReset).of_next ran
  | frameRefused port kind payload => exact (request fun s => s.keeps_refuseFrame ..).of_next ran
  | frameCrcDiscard link =>
    exact (event fun s => s.keeps_discardFrame link PortCounters.raised_addCrc).of_next ran
  | gapTimerExpiry link => exact (event fun s => s.keeps_gapExpiry link).of_next ran
  | feedback pressure status => exact (event fun s => s.keeps_takeFeedback ..).of_next ran
  | lossTimerExpiry => exact (event State.keeps_lossExpiry).of_next ran
  | settleTimerExpiry => exact (event State.keeps_settleExpiry).of_next ran
  | rippleWindowComplete pressure => exact (event fun s => s.keeps_completeWindow pressure).of_next ran
  | timebaseTick => exact (event State.keeps_tick).of_next ran
  | timestampWrap => exact (event State.keeps_wrapTick).of_next ran
  | governorEvaluation => exact (event State.keeps_evaluation).of_next ran
  | starvationTimerExpiry lane => exact (event fun s => s.keeps_starvationExpiry lane).of_next ran
  | lockTimeoutExpiry lane => exact (event fun s => s.keeps_lockTimeoutExpiry lane).of_next ran
  | abrasiveLeadExpiry lane => exact (event fun s => s.keeps_leadExpiry lane).of_next ran
  | dwellExpiry lane => exact (event fun s => s.keeps_dwellExpiry lane).of_next ran
  | stallExpiry lane => exact (event fun s => s.keeps_stallExpiry lane).of_next ran
  | purgeExpiry lane => exact (event fun s => s.keeps_purgeExpiry lane).of_next ran
  | pierceWaitTimerExpiry lane => exact (event fun s => s.keeps_pierceWaitExpiry lane).of_next ran
  | slotTimerExpiry lane => exact (event fun s => s.keeps_slotExpiry lane).of_next ran
  | flowInputChange lane level => exact (s.keeps_flowInputChange lane level).of_next ran
  | flowFilterExpiry lane => exact (event fun s => s.keeps_filterExpiry lane).of_next ran
  | windowTimerExpiry lane => exact (event fun s => s.keeps_windowExpiry lane).of_next ran
  | graceTimerExpiry lane => exact (event fun s => s.keeps_graceExpiry lane).of_next ran
  | inhibitAssert => exact s.keeps_inhibitAssert.of_next ran
  | inhibitRelease => exact s.keeps_inhibitRelease.of_next ran
  | resetInputAssert => exact (s.keeps_holdAtRest (cleared rfl)).of_next ran
  | powerOn => exact (State.keeps_started _ _ _ _ _ s (cleared rfl)).of_next ran
  | linkByteReceived link byte => exact (event fun s => s.keeps_receiveByte ..).of_next ran
  | frameSent link => exact (event fun s => s.keeps_modTx link List.tail).of_next ran

end

/-! ## Every step -/

theorem State.keeps_pending {off : Set Concern} (s : State) (rest : List Instr) :
    Keeps off s { s with pending := rest } := .of_view_of_counts rfl fun _ => rfl

/-- The concern of every invariant but the counters'. -/
def Concern.steady : Concern → Bool
  | .counters _ => false
  | _ => true

/-- A step keeps every concern but the counters'. -/
theorem step_keeps {s t : State} (ran : step s = .next t) {c : Concern} (steady : c.steady = true) (holds : c.Holds s) :
    c.Holds t := by
  let off : Set Concern := {c | c.steady = false}
  have kept : Keeps off s t := by
    unfold step at ran
    split at ran
    · exact (Keeps.refl off s).of_next ran
    · exact (s.keeps_pending _).trans (exec_keeps ran fun _ _ => rfl)
  exact kept.holds c (fun out : c.steady = false => Bool.false_ne_true (out.symm.trans steady)) holds

/-- Settles O54: no step opens or keeps a jet while the inhibit is asserted or the pump is lost, by what each operation
keeps of a lane's jet. -/
theorem everyStepKeepsJetsSafe : Obligations.EveryStepKeepsJetsSafe := by
  intro s t safe ran
  rw [jetsSafe_iff] at safe ⊢
  exact fun L => step_keeps ran (c := .jets L) rfl (safe L)

/-- Settles O55: the grant of each lane is kept; and as there is one grant, two lanes in PIERCING would be one. -/
theorem everyStepKeepsTheGrantHeld : Obligations.EveryStepKeepsTheGrantHeld := by
  intro s t held ran
  refine ⟨fun L => step_keeps ran (c := .grant L) rfl (held L), fun a b piercingA piercingB => ?_⟩
  obtain ⟨h, holds, ofA⟩ := held .A a piercingA
  obtain ⟨h', holds', ofB⟩ := held .B b piercingB
  obtain rfl : h = h' := Option.some.inj (holds.symm.trans holds')
  exact absurd (ofA.symm.trans ofB) (by decide)

/-- Settles O56: an entry of the pierce queue stays only while its lane keeps calling for a pierce. -/
theorem everyStepKeepsWaitsInOrder : Obligations.EveryStepKeepsWaitsInOrder :=
  fun _ _ order ran => step_keeps ran (c := .waits) rfl order

/-- Settles O57: every change of a lane queue leaves it a ring in its region, and none of a FIFO passes its region. -/
theorem everyStepKeepsTheStoreWithin : Obligations.EveryStepKeepsTheStoreWithin :=
  fun _ _ within ran => step_keeps ran (c := .store) rfl within

/-- Settles O58: what is written was checked against the ranges, and every target comes from a recipe, the standby pressure
or the grant. -/
theorem everyStepKeepsTheSetpointWithin : Obligations.EveryStepKeepsTheSetpointWithin :=
  fun _ _ within ran => step_keeps ran (c := .setpoint) rfl within

/-- Settles O59: a sample joins a history of at most 8 and a window of at most 63, and a loss empties both. -/
theorem everyStepKeepsTheSamplesWithin : Obligations.EveryStepKeepsTheSamplesWithin :=
  fun _ _ within ran => step_keeps ran (c := .samples) rfl within

/-! ## Counters -/

/-- A handing on takes the request, on the state it is given or on that state with another line, or only changes the
line. -/
theorem State.handOn_cases (s : State) (p : Port) (c : Instr) (take : State → State) :
    ∃ line, s.handOn p c take = s.modPort p (fun u => { u with line := line }) ∨
      s.handOn p c take = take (s.modPort p fun u => { u with line := line }) := by
  have same : s = s.modPort p fun u => { u with line := (s.port p).line } := by cases p <;> rfl
  unfold State.handOn State.unlessHeld
  split
  · exact ⟨_, .inl same⟩
  · dsimp only
    split
    · exact ⟨_, .inr (congrArg take same)⟩
    case h_2 first rest line =>
      split
      · exact ⟨rest, .inr rfl⟩
      · split
        · exact ⟨_, .inl same⟩
        · refine ⟨(s.port p).line ++ [c], .inl ?_⟩
          cases p <;> rfl

theorem State.countersWithin_clearGroup {s : State} (h : CountersWithin s) {group : Nat} (known : group ≤ 5) :
    CountersWithin (s.clearGroup group) := by
  rw [State.countersWithin_iff] at h ⊢
  intro other known' n mem
  rw [State.groupValues_clearGroup s known known'] at mem
  split at mem
  · obtain ⟨-, -, rfl⟩ := List.mem_map.mp mem
    exact Nat.zero_le _
  · exact h other known' n mem

/-- No counter falls, and none passes its largest value. -/
theorem Keeps.countsFrom {s t : State} (h : Keeps ∅ s t) : s.CountsFrom t :=
  h.all (.counters s) fun _ _ => Raised.refl _

theorem State.CountsFrom.within {s t : State} (h : s.CountsFrom t) (within : CountersWithin s) : CountersWithin t := by
  rw [State.countersWithin_iff] at within ⊢
  exact fun group known => ((h group known).within (within group known)).1

/-- Read in order, no counter has fallen. -/
theorem State.CountsFrom.forall₂ {s t : State} (h : s.CountsFrom t) (within : CountersWithin s) :
    List.Forall₂ (· ≤ ·) s.counters t.counters := by
  rw [State.countersWithin_iff] at within
  have group (g : Nat) (known : g ≤ 5) : List.Forall₂ (· ≤ ·) (s.groupValues g) (t.groupValues g) :=
    ((h g known).within (within g known)).2
  unfold State.counters
  exact List.rel_append (List.rel_append (List.rel_append (List.rel_append (List.rel_append (group 0 (by decide))
    (group 1 (by decide))) (group 2 (by decide))) (group 3 (by decide))) (group 4 (by decide))) (group 5 (by decide))

theorem forall₂_getElem? {old new : List Nat} (h : List.Forall₂ (· ≤ ·) old new) {i a b : Nat}
    (was : old[i]? = some a) (is : new[i]? = some b) : a ≤ b := by
  induction h generalizing i with
  | nil => cases was
  | cons le _ ih =>
    cases i with
    | zero =>
      obtain rfl := Option.some.inj was
      obtain rfl := Option.some.inj is
      exact le
    | succ i => exact ih was is

theorem State.countersWithin_takeCounterRead {s : State} (h : CountersWithin s) (p : Port) (group flag : Nat) :
    CountersWithin (s.takeCounterRead p group flag) := by
  have kept {t : State} (k : Keeps ∅ s t) : CountersWithin t := k.countsFrom.within h
  unfold State.takeCounterRead
  split
  case isTrue => exact kept (s.keeps_refuse ..)
  case isFalse fields =>
    split
    · exact kept (s.keeps_refuse ..)
    · extract_lets read
      have of_read : CountersWithin read := kept (s.keeps_reply ..)
      split
      · refine State.countersWithin_clearGroup of_read ?_
        simp only [Bool.or_eq_true, Bool.not_eq_true', ← Bool.not_eq_true, within_iff, not_or, not_not] at fields
        exact fields.1.2
      · exact of_read

/-- A clear-after-read too leaves the counters within their largest values. -/
theorem State.countersWithin_counterRead {s : State} (h : CountersWithin s) (p : Port) (c : Instr) (group flag : Nat) :
    CountersWithin (s.handOn p c fun s => s.takeCounterRead p group flag) := by
  obtain ⟨line, moved | taken⟩ := s.handOn_cases p c fun s => s.takeCounterRead p group flag
  all_goals
    have lined : CountersWithin (s.modPort p fun u => { u with line := line }) :=
      (Keeps.countsFrom (s.keeps_modPort_of_counters p _ rfl)).within h
  · rwa [moved]
  · rw [taken]
    exact State.countersWithin_takeCounterRead lined p group flag

theorem countersWithin_exec {c : Instr} {s t : State} (h : CountersWithin s) (ran : exec c s = .next t) :
    CountersWithin t := by
  by_cases clears : clearsCounters c = true
  · cases c with
    | counterRead p group flag =>
      obtain rfl := Host.Outcome.next.inj ran
      exact State.countersWithin_counterRead h _ _ _ _
    | counterReadClear p group =>
      obtain rfl := Host.Outcome.next.inj ran
      exact State.countersWithin_counterRead h _ _ _ _
    | powerOn =>
      obtain rfl := Host.Outcome.next.inj ran
      exact State.started_countersWithin _ _ _ _ _
    | resetInputAssert =>
      obtain rfl := Host.Outcome.next.inj ran
      exact State.started_countersWithin s.inhibitInput s.laneA.filter.input s.laneB.filter.input s.pending s.freeUsed
    | _ => cases clears
  · exact (Keeps.countsFrom (exec_keeps ran fun on => absurd on clears)).within h

/-- Settles O60: every count is held at its largest value, and only the commands that clear counters lower one. -/
theorem countersOnlyRise : Obligations.CountersOnlyRise := by
  intro c s t within ran
  refine ⟨countersWithin_exec within ran, fun read power input i a b was is => ?_⟩
  have keepsAll : clearsCounters c ≠ true := by
    intro clears
    cases c with
    | counterRead p group flag =>
      obtain rfl := beq_iff_eq.mp clears
      exact (read p group).2 rfl
    | counterReadClear p group => exact (read p group).1 rfl
    | powerOn => exact power rfl
    | resetInputAssert => exact input rfl
    | _ => cases clears
  have raised : s.CountsFrom t := Keeps.countsFrom (exec_keeps ran fun on => absurd on keepsAll)
  exact forall₂_getElem? (raised.forall₂ within) was is

/-- Settles O53: the part as it starts, with its inputs released and low. -/
theorem resetStateMeetsTheInvariants : Obligations.ResetStateMeetsTheInvariants :=
  ⟨(jetsSafe_iff _).mpr fun _ => State.jetSafe_of_calm (State.started_calm ..),
    (grantHeld_iff _).mpr fun _ => State.granted_of_calm (State.started_calm ..), State.started_waitsInOrder ..,
    State.started_storeWithin .., State.started_setpointWithin .., State.started_samplesWithin ..,
    State.started_countersWithin _ _ _ _ _⟩

end Sys2Proof.Machine

/-! PROOFS. The queue of commands: a step takes the front command, every command has an effect and leaves the waiting
commands alone, and a request behind another joins its port's line (O1, O2); frames written by hand, and a sent frame
(O4, O9). -/

namespace Sys2Proof.Machine

/-! ## Operations that leave the waiting commands alone -/

section
variable (s : State)

theorem State.unlessHeld_pending {event : State → State} (each : ∀ s : State, (event s).pending = s.pending) :
    (s.unlessHeld event).pending = s.pending := by
  unfold State.unlessHeld
  split
  · rfl
  · exact each s

theorem State.handOn_pending (p : Port) (c : Instr) {take : State → State}
    (each : ∀ s : State, (take s).pending = s.pending) : (s.handOn p c take).pending = s.pending := by
  obtain ⟨line, moved | taken⟩ := s.handOn_cases p c take
  · rw [moved, State.modPort_pending]
  · rw [taken, each, State.modPort_pending]

theorem State.discardFrame_pending (l : Link) (count : PortCounters → PortCounters) :
    (s.discardFrame l count).pending = s.pending := by
  unfold State.discardFrame
  extract_lets hunting
  split <;> simp [hunting]

theorem State.gapExpiry_pending (l : Link) : (s.gapExpiry l).pending = s.pending := by
  unfold State.gapExpiry
  split
  · exact s.discardFrame_pending l _
  · rfl

theorem State.judgeFrame_pending (l : Link) (kind : Byte) (payload crc : List Byte) :
    (s.judgeFrame l kind payload crc).pending = s.pending := by
  have pump (t : State) : (t.acceptPumpFrame kind payload).pending = t.pending := by
    unfold State.acceptPumpFrame
    split
    · exact State.pending_of_base (State.takeFeedback_base ..)
    · rfl
  unfold State.judgeFrame
  split
  · split
    · rw [State.pending_of_base (State.acceptFrame_base ..), State.setRx_pending]
    · rw [pump, State.setRx_pending]
  · exact s.discardFrame_pending l _

theorem State.receiveByte_pending (l : Link) (b : Byte) : (s.receiveByte l b).pending = s.pending := by
  unfold State.receiveByte
  (repeat' split) <;> simp [State.discardFrame_pending, State.judgeFrame_pending]

theorem State.takeWrite_pending (config : ConfigStore) : (s.takeWrite config).pending = s.pending := by
  rw [State.takeWrite, State.pending_of_base (State.reply_base ..)]

theorem State.refuseWrite_pending (result : Result) : (s.refuseWrite result).pending = s.pending :=
  State.pending_of_base (s.refuseWrite_base result)

theorem State.repartition_pending (p : Partition) : (s.repartition p).pending = s.pending := by
  rw [State.repartition_eq, State.pending_of_base (State.moveFifo_base ..),
    State.pending_of_base (State.moveFifo_base ..), State.pending_of_base (State.emptyQueue_base ..),
    State.pending_of_base (State.emptyQueue_base ..), State.takeWrite_pending]

theorem State.conclude_pending : s.conclude.pending = s.pending := State.pending_of_base s.conclude_base

theorem State.takeMode_pending (mode : Nat) : (s.takeMode mode).pending = s.pending := by
  have replied (t : State) (result : Result) : (t.reply .C kindMode result []).pending = t.pending :=
    State.pending_of_base (t.reply_base ..)
  have refused (result : Result) : (s.refuse .C kindMode result).pending = s.pending :=
    State.pending_of_base (s.refuse_base ..)
  have on (t : State) : t.mirrorOn.pending = t.pending := by
    rw [State.mirrorOn, State.conclude_pending, State.modLane_pending, State.pending_of_base (State.emptyQueue_base ..)]
  have off (t : State) : t.mirrorOff.pending = t.pending := by
    rw [State.mirrorOff, State.conclude_pending, State.modSeq_pending, State.pending_of_base (State.stopUnit_base ..)]
  unfold State.takeMode
  (repeat' split) <;> simp only [refused, replied, on, off]

theorem State.resetEvents_pending : s.resetEvents.pending = s.pending := rfl

theorem State.restart_pending : s.restart.pending = s.pending := by
  unfold State.restart
  extract_lets lanes t
  change (lanes.setTarget 0).resetEvents.pending = _
  rw [State.resetEvents_pending, State.pending_of_base (State.setTarget_base ..)]
  rfl

theorem State.takeReset_pending : s.takeReset.pending = s.pending := by
  rw [State.takeReset, State.pending_of_base (State.closeTick_base ..), State.restart_pending,
    State.pending_of_base (State.reply_base ..)]

theorem State.evaluation_pending : s.evaluation.pending = s.pending := by
  unfold State.evaluation
  split
  · rw [State.pending_of_base (State.closeTick_base ..), State.pending_of_base (State.evaluateLane_base ..),
      State.pending_of_base (State.evaluateLane_base ..)]
  · rfl

theorem State.takeDue_pending : s.takeDue.pending = s.pending := by
  unfold State.takeDue
  extract_lets links pump eachLane lanes
  have fold (expiries : List (State → Lane → State))
      (each : ∀ f ∈ expiries, ∀ t L, (f t L : State).pending = t.pending) (t : State) :
      (expiries.foldl eachLane t).pending = t.pending := by
    induction expiries generalizing t with
    | nil => rfl
    | cons f fs ih =>
      obtain ⟨first, rest⟩ := List.forall_mem_cons.mp each
      exact (ih rest _).trans ((first _ .B).trans (first t .A))
  rw [State.evaluation_pending]
  refine (fold _ ?_ pump).trans ?_
  · simp only [List.forall_mem_cons, List.not_mem_nil, false_imp_iff, implies_true, and_true]
    exact ⟨fun t L => State.pending_of_base (t.lockTimeoutExpiry_base L),
      fun t L => State.pending_of_base (t.leadExpiry_base L), fun t L => State.pending_of_base (t.dwellExpiry_base L),
      fun t L => State.pending_of_base (t.stallExpiry_base L), fun t L => State.pending_of_base (t.purgeExpiry_base L),
      fun t L => State.pending_of_base (t.starvationExpiry_base L),
      fun t L => State.pending_of_base (t.pierceWaitExpiry_base L),
      fun t L => State.pending_of_base (t.slotExpiry_base L), fun t L => State.pending_of_base (t.filterExpiry_base L),
      fun t L => State.pending_of_base (t.graceExpiry_base L),
      fun t L => State.pending_of_base (t.windowExpiry_base L)⟩
  · rw [State.pending_of_base (State.settleExpiry_base _), State.pending_of_base (State.lossExpiry_base _)]
    simp only [links, State.gapExpiry_pending]

theorem State.tickPeriod_pending : s.tickPeriod.pending = s.pending := rfl
theorem State.tickTimers_pending : s.tickTimers.pending = s.pending := rfl

theorem State.tick_pending : s.tick.pending = s.pending := by
  have stamped (t : State) : t.tickTimestamp.pending = t.pending := by
    unfold State.tickTimestamp
    split
    · rfl
    · rw [State.pending_of_base (State.raiseCell_base ..)]
  unfold State.tick
  extract_lets ticked
  have kept : ticked.pending = s.pending := by
    change s.takeDue.countTick.tickTimers.tickTimestamp.tickPeriod.rampTick.pending = _
    rw [State.pending_of_base (State.rampTick_base _), State.tickPeriod_pending, stamped, State.tickTimers_pending,
      State.pending_of_base (State.countTick_base _), State.takeDue_pending]
  clear_value ticked
  rw [State.pending_of_base (State.closeTick_base _), kept]

theorem State.flowInputChange_pending (L : Lane) (level : Level) : (s.flowInputChange L level).pending = s.pending := by
  unfold State.flowInputChange
  split
  · rfl
  · rw [State.unlessHeld_pending _ fun t => State.pending_of_base (t.filterChange_base L), State.modFilter_pending]

theorem State.inhibitAssert_pending : s.inhibitAssert.pending = s.pending := by
  unfold State.inhibitAssert
  split
  · rfl
  · refine State.unlessHeld_pending _ fun t => ?_
    rw [State.conclude_pending, State.pending_of_base (State.faultBoth_base ..),
      State.pending_of_base (State.raiseCell_base ..)]

theorem State.inhibitRelease_pending : s.inhibitRelease.pending = s.pending := by
  unfold State.inhibitRelease
  split
  · refine State.unlessHeld_pending _ fun t => ?_
    rw [State.conclude_pending, State.pending_of_base (State.raiseCell_base ..)]
  · rfl

/-! ## Every command -/

/-- Every command answers a next state with the same waiting commands. -/
theorem exec_completes (c : Instr) : ∃ t, exec c s = .next t ∧ t.pending = s.pending := by
  have request {p : Port} {take : State → State} (each : ∀ s : State, (take s).pending = s.pending) :
      (s.handOn p c take).pending = s.pending := s.handOn_pending p c each
  have event {take : State → State} (each : ∀ s : State, (take s).pending = s.pending) :
      (s.unlessHeld take).pending = s.pending := s.unlessHeld_pending each
  cases c with
  | jobOpen lane material thickness =>
    exact ⟨_, rfl, request fun s => State.pending_of_base (s.takeJobOpen_base ..)⟩
  | jobClose lane => exact ⟨_, rfl, request fun s => State.pending_of_base (s.takeJobClose_base ..)⟩
  | post lane segId body => exact ⟨_, rfl, request fun s => State.pending_of_base (s.takePost_base ..)⟩
  | next lane => exact ⟨_, rfl, request fun s => State.pending_of_base (s.takeNext_base ..)⟩
  | releaseAttempt lane =>
    exact ⟨_, rfl, event fun s => (State.conclude_pending _).trans (State.pending_of_base (s.attempt_base ..))⟩
  | pierceGrant => exact ⟨_, rfl, event State.conclude_pending⟩
  | done lane segId => exact ⟨_, rfl, request fun s => State.pending_of_base (s.takeDone_base ..)⟩
  | resume lane => exact ⟨_, rfl, request fun s => State.pending_of_base (s.takeResume_base ..)⟩
  | abort source => exact ⟨_, rfl, request fun s => State.pending_of_base (s.takeAbort_base ..)⟩
  | complRead lane n => exact ⟨_, rfl, request fun s => State.pending_of_base (s.takeComplRead_base ..)⟩
  | status port =>
    refine ⟨_, rfl, request fun s => ?_⟩
    exact (State.pending_of_base (s.reply_base port kindStatus .ok (s.statusBody port)) :)
  | clear port events => exact ⟨_, rfl, request fun s => State.pending_of_base (s.takeClear_base ..)⟩
  | mask port events => exact ⟨_, rfl, request fun s => State.pending_of_base (s.takeMask_base ..)⟩
  | route events =>
    refine ⟨_, rfl, request fun s => ?_⟩
    rw [State.takeRoute, State.pending_of_base (State.reply_base ..)]
  | counterRead port group flag =>
    exact ⟨_, rfl, request fun s => State.pending_of_base (s.takeCounterRead_base ..)⟩
  | counterReadClear port group =>
    exact ⟨_, rfl, request fun s => State.pending_of_base (s.takeCounterRead_base ..)⟩
  | tableWriteRecipe index image =>
    refine ⟨_, rfl, request fun s => ?_⟩
    unfold State.writeRecipe
    (repeat' split) <;> simp only [State.refuseWrite_pending, State.takeWrite_pending]
  | tableWriteElement index image =>
    refine ⟨_, rfl, request fun s => ?_⟩
    unfold State.writeElement
    (repeat' split) <;> simp only [State.refuseWrite_pending, State.takeWrite_pending]
  | tableWriteControl index image =>
    refine ⟨_, rfl, request fun s => ?_⟩
    unfold State.writeControl
    (repeat' split) <;> simp only [State.refuseWrite_pending, State.takeWrite_pending]
  | tableWriteFactorTable item index values =>
    refine ⟨_, rfl, request fun s => ?_⟩
    unfold State.writeFactorTable
    (repeat' split) <;> simp only [State.refuseWrite_pending, State.takeWrite_pending]
  | tableWritePartition index image =>
    refine ⟨_, rfl, request fun s => ?_⟩
    unfold State.writePartition
    (repeat' split) <;> simp only [State.refuseWrite_pending, State.repartition_pending]
  | tableWriteTiming index image =>
    refine ⟨_, rfl, request fun s => ?_⟩
    unfold State.writeTiming
    (repeat' split) <;> simp only [State.refuseWrite_pending, State.takeWrite_pending]
  | tableReadRecipe index => exact ⟨_, rfl, request fun s => State.pending_of_base (s.readRecipe_base ..)⟩
  | tableReadSelection item index =>
    exact ⟨_, rfl, request fun s => State.pending_of_base (s.readSelection_base ..)⟩
  | tableReadFactorTable item index =>
    exact ⟨_, rfl, request fun s => State.pending_of_base (s.readFactorTable_base ..)⟩
  | tableReadPartition index => exact ⟨_, rfl, request fun s => State.pending_of_base (s.readPartition_base ..)⟩
  | tableReadTiming index => exact ⟨_, rfl, request fun s => State.pending_of_base (s.readTiming_base ..)⟩
  | modeMirrorOn mode => exact ⟨_, rfl, request fun s => s.takeMode_pending mode⟩
  | modeMirrorOff => exact ⟨_, rfl, request fun s => s.takeMode_pending 0⟩
  | reset => exact ⟨_, rfl, request State.takeReset_pending⟩
  | frameRefused port kind payload =>
    exact ⟨_, rfl, request fun s => State.pending_of_base (s.refuseFrame_base ..)⟩
  | frameCrcDiscard link => exact ⟨_, rfl, event fun s => s.discardFrame_pending link _⟩
  | gapTimerExpiry link => exact ⟨_, rfl, event fun s => s.gapExpiry_pending link⟩
  | feedback pressure status => exact ⟨_, rfl, event fun s => State.pending_of_base (s.takeFeedback_base ..)⟩
  | lossTimerExpiry => exact ⟨_, rfl, event fun s => State.pending_of_base s.lossExpiry_base⟩
  | settleTimerExpiry => exact ⟨_, rfl, event fun s => State.pending_of_base s.settleExpiry_base⟩
  | rippleWindowComplete pressure => exact ⟨_, rfl, event fun s => State.pending_of_base (s.completeWindow_base ..)⟩
  | timebaseTick => exact ⟨_, rfl, event State.tick_pending⟩
  | timestampWrap =>
    refine ⟨_, rfl, event fun s => ?_⟩
    unfold State.wrapTick
    split
    · exact s.tick_pending
    · rfl
  | governorEvaluation => exact ⟨_, rfl, event State.evaluation_pending⟩
  | starvationTimerExpiry lane => exact ⟨_, rfl, event fun s => State.pending_of_base (s.starvationExpiry_base ..)⟩
  | lockTimeoutExpiry lane => exact ⟨_, rfl, event fun s => State.pending_of_base (s.lockTimeoutExpiry_base ..)⟩
  | abrasiveLeadExpiry lane => exact ⟨_, rfl, event fun s => State.pending_of_base (s.leadExpiry_base ..)⟩
  | dwellExpiry lane => exact ⟨_, rfl, event fun s => State.pending_of_base (s.dwellExpiry_base ..)⟩
  | stallExpiry lane => exact ⟨_, rfl, event fun s => State.pending_of_base (s.stallExpiry_base ..)⟩
  | purgeExpiry lane => exact ⟨_, rfl, event fun s => State.pending_of_base (s.purgeExpiry_base ..)⟩
  | pierceWaitTimerExpiry lane =>
    exact ⟨_, rfl, event fun s => State.pending_of_base (s.pierceWaitExpiry_base ..)⟩
  | slotTimerExpiry lane => exact ⟨_, rfl, event fun s => State.pending_of_base (s.slotExpiry_base ..)⟩
  | flowInputChange lane level => exact ⟨_, rfl, s.flowInputChange_pending lane level⟩
  | flowFilterExpiry lane => exact ⟨_, rfl, event fun s => State.pending_of_base (s.filterExpiry_base ..)⟩
  | windowTimerExpiry lane => exact ⟨_, rfl, event fun s => State.pending_of_base (s.windowExpiry_base ..)⟩
  | graceTimerExpiry lane => exact ⟨_, rfl, event fun s => State.pending_of_base (s.graceExpiry_base ..)⟩
  | inhibitAssert => exact ⟨_, rfl, s.inhibitAssert_pending⟩
  | inhibitRelease => exact ⟨_, rfl, s.inhibitRelease_pending⟩
  | resetInputAssert => exact ⟨_, rfl, rfl⟩
  | powerOn => exact ⟨_, rfl, rfl⟩
  | linkByteReceived link byte => exact ⟨_, rfl, event fun s => s.receiveByte_pending link byte⟩
  | frameSent link => exact ⟨_, rfl, event fun s => State.pending_of_base (s.frameSent_base ..)⟩

/-- Every request of a port is handed on by it. -/
theorem exec_eq_handOn {c : Instr} {p : Port} (request : requestPort c = some p) :
    ∃ take : State → State, exec c s = .next (s.handOn p c take) := by
  cases c with
  | abort source =>
    cases source with
    | head lane =>
      obtain rfl := Option.some.inj request
      exact ⟨fun s => s.takeAbort (.head lane), rfl⟩
    | cell code =>
      obtain rfl := Option.some.inj request
      exact ⟨fun s => s.takeAbort (.cell code), rfl⟩
  | releaseAttempt | pierceGrant | frameCrcDiscard | gapTimerExpiry | feedback | lossTimerExpiry | settleTimerExpiry
  | rippleWindowComplete | timebaseTick | timestampWrap | governorEvaluation | starvationTimerExpiry | lockTimeoutExpiry
  | abrasiveLeadExpiry | dwellExpiry | stallExpiry | purgeExpiry | pierceWaitTimerExpiry | slotTimerExpiry
  | flowInputChange | flowFilterExpiry | windowTimerExpiry | graceTimerExpiry | inhibitAssert | inhibitRelease
  | resetInputAssert | powerOn | linkByteReceived | frameSent => cases request
  | _ =>
    obtain rfl := Option.some.inj request
    exact ⟨_, rfl⟩

end

/-- Settles O1: both clauses are the two rows of the step. -/
theorem stepTakesFrontCommand : Obligations.StepTakesFrontCommand := by
  refine ⟨fun c rest s front => ?_, fun s idle => ?_⟩
  · unfold step
    rw [front]
  · unfold step
    rw [idle]

/-- Settles O2, command by command; a request is handed on by its port, behind those that wait. -/
theorem everyCommandCompletes : Obligations.EveryCommandCompletes := by
  refine ⟨fun c s => exec_completes s c, fun c p s first rest request live line other => ?_⟩
  obtain ⟨take, taken⟩ := exec_eq_handOn s request
  rw [taken, State.handOn_behind live line other]

/-- Settles O4, by evaluation of the decoder and of the CRC. -/
theorem handWrittenFramesDecode : Obligations.HandWrittenFramesDecode := by
  unfold Obligations.HandWrittenFramesDecode
  refine ⟨by decide +kernel, rfl, rfl, rfl, rfl, rfl, rfl, rfl, rfl, rfl⟩

/-- Settles O9: the transmit orders are apart, and only that of the link changes. -/
theorem sentFrameLeavesItsLink : Obligations.SentFrameLeavesItsLink := by
  intro l s live
  refine ⟨s.frameSent l, ?_, ?_, fun m other => ?_, fun frames => ?_⟩
  · change Host.Outcome.next (s.unlessHeld fun s => s.frameSent l) = _
    rw [State.unlessHeld, live]
    rfl
  · cases l <;> rfl
  · cases l <;> cases m <;> first | rfl | exact absurd rfl other
  · cases l <;> rfl

end Sys2Proof.Machine

/-! PROOFS. The frame of a request decodes to the request: bytes, fields, kinds and lengths (O3). -/

namespace Sys2Proof.Machine

/-! ## Bytes and fields (R170, R188) -/

@[simp] theorem beBytes_length (w v : Nat) : (beBytes w v).length = w := by
  induction w with
  | zero => rfl
  | succ w ih => rw [beBytes, List.length_cons, ih]

theorem byte_toNat {v : Nat} (h : v < 256) : (byte v).toNat = v := by
  rw [byte, BitVec.toNat_ofNat, Nat.mod_eq_of_lt h]

/-- Read behind other bytes, a value laid out in `w` bytes is that value modulo what they can carry. -/
theorem foldl_beBytes (w v acc : Nat) :
    (beBytes w v).foldl (fun acc b => acc * 256 + b.toNat) acc = acc * 256 ^ w + v % 256 ^ w := by
  induction w generalizing acc with
  | zero => simp [beBytes, Nat.mod_one]
  | succ w ih =>
    have digits : v % 256 ^ (w + 1) = v % 256 ^ w + 256 ^ w * (v / 256 ^ w % 256) := by rw [pow_succ, Nat.mod_mul]
    have digit : (BitVec.ofNat 8 (v / 256 ^ w)).toNat = v / 256 ^ w % 256 := BitVec.toNat_ofNat ..
    rw [beBytes, List.foldl_cons, ih, digit, digits]
    ring

theorem beNat_beBytes {w v : Nat} (h : v < 256 ^ w) : beNat (beBytes w v) = v := by
  rw [beNat, foldl_beBytes, Nat.zero_mul, Nat.zero_add, Nat.mod_eq_of_lt h]

theorem beNat_byte {v : Nat} (h : v < 256) : beNat [byte v] = v := by
  simpa [beNat] using byte_toNat h

theorem take_beBytes (w v : Nat) (rest : List Byte) : (beBytes w v ++ rest).take w = beBytes w v :=
  List.take_left' (beBytes_length w v)

theorem drop_beBytes (w v : Nat) (rest : List Byte) : (beBytes w v ++ rest).drop w = rest :=
  List.drop_left' (beBytes_length w v)

theorem fits_iff (w v : Nat) : fits w v = true ↔ v < 256 ^ w := by simp [fits]

theorem splitFields_joinFields {ws vs : List Nat} (h : fieldsFit ws vs = true) :
    splitFields ws (joinFields ws vs) = vs := by
  induction ws generalizing vs with
  | nil =>
    cases vs with
    | nil => rfl
    | cons => cases h
  | cons w ws ih =>
    cases vs with
    | nil => cases h
    | cons v vs =>
      simp only [fieldsFit, Bool.and_eq_true, decide_eq_true_eq] at h
      rw [joinFields, splitFields, take_beBytes, drop_beBytes, beNat_beBytes h.1, ih h.2]

theorem joinFields_length {ws vs : List Nat} (h : fieldsFit ws vs = true) : (joinFields ws vs).length = ws.sum := by
  induction ws generalizing vs with
  | nil => rfl
  | cons w ws ih =>
    cases vs with
    | nil => cases h
    | cons v vs =>
      simp only [fieldsFit, Bool.and_eq_true] at h
      rw [joinFields, List.length_append, beBytes_length, ih h.2, List.sum_cons]

theorem bitVec_ofNat_beNat {n w : Nat} (events : BitVec n) (h : events.toNat < 256 ^ w) :
    BitVec.ofNat n (beNat (beBytes w events.toNat)) = events := by
  rw [beNat_beBytes h, BitVec.ofNat_toNat, BitVec.setWidth_eq]

/-! ## The decoder by the owner of a kind -/

section
variable {kind : Nat} {payload : List Byte} {c : Instr}

theorem frameVerdict_none {p : Port} (code : kind < 256) (takes : takesKind p kind = true)
    (length : lengthOk p kind payload = true) : frameVerdict p (byte kind) payload = none := by
  rw [frameVerdict, byte_toNat code, takes, length]
  rfl

theorem decodeFrame_shared {p : Port} (code : kind < 256) (takes : takesKind p kind = true)
    (length : lengthOk p kind payload = true) (shared : decodeShared p kind payload = some c) :
    decodeFrame p (byte kind) payload = c := by
  unfold decodeFrame
  rw [frameVerdict_none code takes length, byte_toNat code, shared]

theorem decodeFrame_head {L : Lane} (code : kind < 256) (takes : takesKind L.port kind = true)
    (length : lengthOk L.port kind payload = true) (unshared : decodeShared L.port kind payload = none)
    (head : decodeHead L kind payload = some c) : decodeFrame L.port (byte kind) payload = c := by
  unfold decodeFrame
  rw [frameVerdict_none code takes length, byte_toNat code, unshared]
  cases L with
  | A => exact (congrArg (Option.getD · _) head :)
  | B => exact (congrArg (Option.getD · _) head :)

theorem decodeFrame_cell (code : kind < 256) (takes : takesKind .C kind = true)
    (length : lengthOk .C kind payload = true) (unshared : decodeShared .C kind payload = none)
    (cell : decodeCell kind payload = some c) : decodeFrame .C (byte kind) payload = c := by
  unfold decodeFrame
  rw [frameVerdict_none code takes length, byte_toNat code, unshared]
  exact (congrArg (Option.getD · _) cell :)

end

/-! ## POST bodies (R176) -/

theorem beNat_flagBits (endJetOff closing : Bool) :
    beNat [byte (flagBits [endJetOff, closing])] = flagBits [endJetOff, closing] :=
  beNat_byte (by cases endJetOff <;> cases closing <;> decide)

/-- The fields of a LINE or ARC, read back from their places; what stands behind them is left over. -/
theorem encodeCut_fields {cut : Cut} (h : cut.wellFormed = true) (rest : List Byte) :
    let bytes := encodePostBody.encodeCut cut ++ rest
    beNat (bytes.take 3) = cut.length ∧ beNat ((bytes.drop 3).take 2) = cut.entryDir ∧
      beNat ((bytes.drop 5).take 2) = cut.exitDir ∧ beNat ((bytes.drop 7).take 1) = cut.quality ∧
      (beNat ((bytes.drop 8).take 1)).testBit 0 = cut.endJetOff ∧
      (beNat ((bytes.drop 8).take 1)).testBit 1 = cut.closing ∧ bytes.drop 9 = rest := by
  simp only [Cut.wellFormed, Bool.and_eq_true, fits_iff] at h
  obtain ⟨⟨⟨length, entry⟩, exit⟩, quality⟩ := h
  have flags := beNat_flagBits cut.endJetOff cut.closing
  refine ⟨beNat_beBytes length, beNat_beBytes entry, beNat_beBytes exit, beNat_byte quality, ?_, ?_, rfl⟩
  · refine (congrArg (Nat.testBit · 0) flags).trans ?_
    cases cut.endJetOff <;> cases cut.closing <;> rfl
  · refine (congrArg (Nat.testBit · 1) flags).trans ?_
    cases cut.endJetOff <;> cases cut.closing <;> rfl

/-- The body of a POST has a kind code, and decodes behind it. -/
theorem decodePostBody_encode {body : PostBody} (h : body.wellFormed = true) :
    ∃ code rest, encodePostBody body = byte code :: rest ∧ decodePostBody (byte code).toNat rest = body := by
  cases body with
  | unknownKind code =>
    simp only [PostBody.wellFormed, Bool.and_eq_true, fits_iff, decide_eq_true_eq] at h
    refine ⟨code, [], rfl, ?_⟩
    rw [byte_toNat h.1]
    obtain ⟨k, rfl⟩ := Nat.exists_eq_add_of_le' h.2
    rfl
  | known seg =>
    cases seg with
    | traverse length =>
      simp only [PostBody.wellFormed, Segment.wellFormed, fits_iff] at h
      exact ⟨0, _, rfl, congrArg (PostBody.known ∘ Segment.traverse) (beNat_beBytes h)⟩
    | pierce dwell =>
      cases dwell with
      | none => exact ⟨1, [], rfl, rfl⟩
      | some dwell =>
        simp only [PostBody.wellFormed, Segment.wellFormed, fits_iff] at h
        exact ⟨1, _, rfl, congrArg (PostBody.known ∘ Segment.pierce ∘ some) (beNat_beBytes h)⟩
    | line cut =>
      obtain ⟨length, entry, exit, quality, jet, closing, -⟩ := encodeCut_fields (cut := cut) h []
      refine ⟨2, encodePostBody.encodeCut cut, rfl, ?_⟩
      rw [List.append_nil] at length entry exit quality jet closing
      change PostBody.known (.line _) = _
      rw [length, entry, exit, quality, jet, closing]
    | arc cut radius =>
      simp only [PostBody.wellFormed, Segment.wellFormed, Bool.and_eq_true, fits_iff] at h
      obtain ⟨length, entry, exit, quality, jet, closing, rest⟩ := encodeCut_fields h.1 (beBytes 2 radius)
      refine ⟨3, encodePostBody.encodeCut cut ++ beBytes 2 radius, rfl, ?_⟩
      change PostBody.known (.arc _ _) = _
      rw [length, entry, exit, quality, jet, closing, rest, beNat_beBytes h.2]

/-- A POST has one of the lengths of its segment kind. -/
theorem postLengthOk_encode (segId : Nat) {body : PostBody} (h : body.wellFormed = true) :
    postLengthOk (beBytes 2 segId ++ encodePostBody body) = true := by
  cases body with
  | unknownKind code =>
    simp only [PostBody.wellFormed, Bool.and_eq_true, fits_iff, decide_eq_true_eq] at h
    change (match (byte code).toNat with | 0 => _ | 1 => _ | 2 => _ | 3 => _ | _ => true) = true
    rw [byte_toNat h.1]
    obtain ⟨k, rfl⟩ := Nat.exists_eq_add_of_le' h.2
    rfl
  | known seg =>
    cases seg with
    | pierce dwell => cases dwell <;> rfl
    | traverse | line | arc => rfl

theorem encodePostBody_length (body : PostBody) : (encodePostBody body).length ≤ 12 := by
  cases body with
  | unknownKind => exact Nat.succ_le_succ (Nat.zero_le _)
  | known seg =>
    cases seg with
    | pierce dwell => cases dwell <;> simp [encodePostBody]
    | traverse | line | arc => simp [encodePostBody, encodePostBody.encodeCut]

/-! ## Items (R188) -/

theorem factorItemOf_factorCode {item : FactorItem} (h : item.wellFormed = true) :
    factorItemOf (factorCode item) = item := by
  cases item with
  | undefined code =>
    simp only [FactorItem.wellFormed, Bool.and_eq_true, decide_eq_true_eq] at h
    obtain ⟨k, rfl⟩ := Nat.exists_eq_add_of_le' (Nat.succ_le_of_lt h.2)
    rfl
  | _ => rfl

/-- A table's code fits a byte and is no other item's. -/
theorem factorCode_cases {item : FactorItem} (h : item.wellFormed = true) :
    factorCode item < 256 ∧ (factorCode item < 6 ∨ 10 < factorCode item) := by
  cases item with
  | undefined code =>
    simp only [FactorItem.wellFormed, Bool.and_eq_true, fits_iff, decide_eq_true_eq] at h
    exact ⟨h.1, .inr h.2⟩
  | _ => decide

theorem decodeTableWrite_factor {item : FactorItem} (h : item.wellFormed = true) (index : Nat) (values : List Byte) :
    decodeTableWrite (factorCode item) index values =
      some (.tableWriteFactorTable item index (splitFields (factorWidths item) values)) := by
  obtain ⟨-, other⟩ := factorCode_cases h
  unfold decodeTableWrite
  rw [if_neg, if_neg, if_neg, if_neg, if_neg]
  · dsimp only
    rw [factorItemOf_factorCode h]
  all_goals
    first | unfold itemTiming | unfold itemPartition | unfold itemControl | unfold itemElement | unfold itemRecipe
    omega

theorem decodeTableRead_factor {item : FactorItem} (h : item.wellFormed = true) (index : Nat) :
    decodeTableRead (factorCode item) index = .tableReadFactorTable item index := by
  obtain ⟨-, other⟩ := factorCode_cases h
  unfold decodeTableRead
  rw [if_neg, if_neg, if_neg, if_neg, if_neg]
  · rw [factorItemOf_factorCode h]
  all_goals
    first | unfold itemTiming | unfold itemPartition | unfold itemControl | unfold itemElement | unfold itemRecipe
    omega

/-- A factor table's write has the length of its item. -/
theorem writeLengthOk_factor {item : FactorItem} (h : item.wellFormed = true) (index : Nat) {values : List Nat}
    (fit : fieldsFit (factorWidths item) values = true) :
    writeLengthOk (byte (factorCode item) :: byte index :: joinFields (factorWidths item) values) = true := by
  have length := joinFields_length fit
  unfold writeLengthOk
  dsimp only
  rw [byte_toNat (factorCode_cases h).1, List.length_cons, List.length_cons, length]
  cases item with
  | undefined code =>
    simp only [FactorItem.wellFormed, Bool.and_eq_true, decide_eq_true_eq] at h
    obtain ⟨k, rfl⟩ := Nat.exists_eq_add_of_le' (Nat.succ_le_of_lt h.2)
    rfl
  | _ => rfl

end Sys2Proof.Machine

/-! PROOFS. Every well-formed request is the one its frame decodes to (O3). -/

namespace Sys2Proof.Machine

/-- The frame of the request decodes to it on its port, and is not too long. -/
def Decodes (c : Instr) : Prop :=
  ∀ p kind payload, encodeRequest c = some (p, kind, payload) →
    payload.length ≤ 48 ∧ decodeFrame p (byte kind) payload = c

theorem decodes_of_frame {c : Instr} {p : Port} {kind : Nat} {payload : List Byte}
    (frame : encodeRequest c = some (p, kind, payload)) (short : payload.length ≤ 48)
    (decodes : decodeFrame p (byte kind) payload = c) : Decodes c := by
  intro q k bytes h
  rw [frame] at h
  obtain ⟨rfl, rfl, rfl⟩ := h
  exact ⟨short, decodes⟩

theorem decodes_of_none {c : Instr} (frame : encodeRequest c = none) : Decodes c := by
  intro p kind payload h
  rw [frame] at h
  cases h

/-! ## The requests of a head port -/

section
variable (L : Lane)

theorem decodes_jobOpen {material thickness : Nat} (h : (Instr.jobOpen L material thickness).wellFormed = true) :
    Decodes (.jobOpen L material thickness) := by
  simp only [Instr.wellFormed, Bool.and_eq_true, fits_iff] at h
  refine decodes_of_frame rfl (by simp) (decodeFrame_head (by decide) (by cases L <;> rfl) rfl rfl ?_)
  refine congrArg some ?_
  rw [take_beBytes, drop_beBytes, beNat_beBytes h.1, beNat_beBytes h.2]

theorem decodes_post {segId : Nat} {body : PostBody} (h : (Instr.post L segId body).wellFormed = true) :
    Decodes (.post L segId body) := by
  simp only [Instr.wellFormed, Bool.and_eq_true, fits_iff] at h
  obtain ⟨code, rest, encoded, decoded⟩ := decodePostBody_encode h.2
  have short := encodePostBody_length body
  refine decodes_of_frame rfl (by rw [List.length_append, beBytes_length]; omega)
    (decodeFrame_head (by decide) (by cases L <;> rfl) (postLengthOk_encode segId h.2) rfl ?_)
  rw [encoded]
  change some (Instr.post L (beNat (beBytes 2 segId)) (decodePostBody (byte code).toNat rest)) = _
  rw [beNat_beBytes h.1, decoded]

theorem decodes_done {segId : Nat} (h : (Instr.done L segId).wellFormed = true) : Decodes (.done L segId) := by
  refine decodes_of_frame rfl (by simp) (decodeFrame_head (by decide) (by cases L <;> rfl) rfl rfl ?_)
  exact congrArg (some ∘ Instr.done L) (beNat_beBytes ((fits_iff ..).mp h))

theorem decodes_complRead {n : Nat} (h : (Instr.complRead L n).wellFormed = true) : Decodes (.complRead L n) := by
  refine decodes_of_frame rfl (by simp) (decodeFrame_head (by decide) (by cases L <;> rfl) rfl rfl ?_)
  exact congrArg (some ∘ Instr.complRead L) (beNat_byte ((fits_iff ..).mp h))

theorem decodes_abortHead : Decodes (.abort (.head L)) :=
  decodes_of_frame rfl (Nat.zero_le _) (decodeFrame_head (by decide) (by cases L <;> rfl) (by cases L <;> rfl) rfl rfl)

end

/-! ## The requests that every port takes -/

/-- An event mask reads back from the width of its port. -/
theorem ofNat_beNat_encodeMask {p : Port} {events : BitVec 32} (h : maskFits p events = true) :
    BitVec.ofNat 32 (beNat (encodeMask p events)) = events := by
  cases p with
  | C => exact bitVec_ofNat_beNat events events.isLt
  | A | B => exact bitVec_ofNat_beNat events (of_decide_eq_true h)

theorem encodeMask_length (p : Port) (events : BitVec 32) :
    (encodeMask p events).length = if p = .C then 4 else 2 := by cases p <;> rfl

theorem decodes_clear {p : Port} {events : BitVec 32} (h : (Instr.clear p events).wellFormed = true) :
    Decodes (.clear p events) := by
  refine decodes_of_frame rfl (by rw [encodeMask_length]; split <;> decide)
    (decodeFrame_shared (by decide) (by cases p <;> rfl) (by cases p <;> rfl) ?_)
  exact congrArg (some ∘ Instr.clear p) (ofNat_beNat_encodeMask h)

theorem decodes_mask {p : Port} {events : BitVec 32} (h : (Instr.mask p events).wellFormed = true) :
    Decodes (.mask p events) := by
  refine decodes_of_frame rfl (by rw [encodeMask_length]; split <;> decide)
    (decodeFrame_shared (by decide) (by cases p <;> rfl) (by cases p <;> rfl) ?_)
  exact congrArg (some ∘ Instr.mask p) (ofNat_beNat_encodeMask h)

theorem decodes_counterRead {p : Port} {group flag : Nat} (h : (Instr.counterRead p group flag).wellFormed = true) :
    Decodes (.counterRead p group flag) := by
  simp only [Instr.wellFormed, Bool.and_eq_true, fits_iff, decide_eq_true_eq] at h
  obtain ⟨⟨group', flag'⟩, read⟩ := h
  refine decodes_of_frame rfl (by simp) (decodeFrame_shared (by decide) (by cases p <;> rfl) (by cases p <;> rfl) ?_)
  change some (if (byte flag).toNat = 1 then _ else Instr.counterRead p (byte group).toNat (byte flag).toNat) = _
  rw [byte_toNat flag', byte_toNat group', if_neg read]

theorem decodes_counterReadClear {p : Port} {group : Nat} (h : (Instr.counterReadClear p group).wellFormed = true) :
    Decodes (.counterReadClear p group) := by
  refine decodes_of_frame rfl (by simp) (decodeFrame_shared (by decide) (by cases p <;> rfl) (by cases p <;> rfl) ?_)
  exact congrArg (some ∘ Instr.counterReadClear p) (byte_toNat ((fits_iff ..).mp h))

/-! ## The requests of port C -/

theorem decodes_abortCell {code : Nat} (h : (Instr.abort (.cell code)).wellFormed = true) :
    Decodes (.abort (.cell code)) := by
  refine decodes_of_frame rfl (by simp) (decodeFrame_cell (by decide) rfl rfl rfl ?_)
  exact congrArg (some ∘ Instr.abort ∘ AbortSource.cell) (beNat_byte ((fits_iff ..).mp h))

theorem decodes_route (events : BitVec 16) : Decodes (.route events) := by
  refine decodes_of_frame rfl (by simp) (decodeFrame_cell (by decide) rfl rfl rfl ?_)
  exact congrArg (some ∘ Instr.route) (bitVec_ofNat_beNat events events.isLt)

theorem decodes_modeMirrorOn {mode : Nat} (h : (Instr.modeMirrorOn mode).wellFormed = true) :
    Decodes (.modeMirrorOn mode) := by
  simp only [Instr.wellFormed, Bool.and_eq_true, fits_iff, decide_eq_true_eq] at h
  refine decodes_of_frame rfl (by simp) (decodeFrame_cell (by decide) rfl rfl rfl ?_)
  change some (if beNat [byte mode] = 0 then Instr.modeMirrorOff else .modeMirrorOn (beNat [byte mode])) = _
  rw [beNat_byte h.1, if_neg h.2]

/-- A table write decodes where its length is that of its item and its values read back. -/
theorem decodes_write {c : Instr} {item index : Nat} {values : List Byte} (code : item < 256) (place : fits 1 index = true)
    (frame : encodeRequest c = some (.C, kindTableWrite, byte item :: byte index :: values))
    (short : values.length ≤ 46) (length : writeLengthOk (byte item :: byte index :: values) = true)
    (decodes : decodeTableWrite item index values = some c) : Decodes c := by
  refine decodes_of_frame frame (by rw [List.length_cons, List.length_cons]; omega)
    (decodeFrame_cell (by decide) rfl length rfl ?_)
  change decodeTableWrite (byte item).toNat (byte index).toNat values = _
  rw [byte_toNat code, byte_toNat ((fits_iff ..).mp place), decodes]

theorem decodes_writeRecipe {index : Nat} {m : RecipeImage} (h : (Instr.tableWriteRecipe index m).wellFormed = true) :
    Decodes (.tableWriteRecipe index m) := by
  simp only [Instr.wellFormed, Bool.and_eq_true] at h
  refine decodes_write (item := itemRecipe) (by decide) h.1 rfl (by rw [joinFields_length h.2]; decide) rfl ?_
  change (recipeOfValues (splitFields recipeWidths (joinFields recipeWidths (recipeValues m)))).map (Instr.tableWriteRecipe index) = _
  rw [splitFields_joinFields h.2]
  rfl

theorem decodes_writeElement {index : Nat} {m : ElementImage} (h : (Instr.tableWriteElement index m).wellFormed = true) :
    Decodes (.tableWriteElement index m) := by
  simp only [Instr.wellFormed, Bool.and_eq_true] at h
  refine decodes_write (item := itemElement) (by decide) h.1 rfl (by rw [joinFields_length h.2]; decide) rfl ?_
  change (elementOfValues (splitFields elementWidths (joinFields elementWidths (elementValues m)))).map (Instr.tableWriteElement index) = _
  rw [splitFields_joinFields h.2]
  rfl

theorem decodes_writeControl {index : Nat} {m : ControlImage} (h : (Instr.tableWriteControl index m).wellFormed = true) :
    Decodes (.tableWriteControl index m) := by
  simp only [Instr.wellFormed, Bool.and_eq_true] at h
  refine decodes_write (item := itemControl) (by decide) h.1 rfl (by rw [joinFields_length h.2]; decide) rfl ?_
  change (controlOfValues (splitFields controlWidths (joinFields controlWidths (controlValues m)))).map (Instr.tableWriteControl index) = _
  rw [splitFields_joinFields h.2]
  rfl

theorem decodes_writePartition {index : Nat} {m : PartitionImage}
    (h : (Instr.tableWritePartition index m).wellFormed = true) : Decodes (.tableWritePartition index m) := by
  simp only [Instr.wellFormed, Bool.and_eq_true] at h
  refine decodes_write (item := itemPartition) (by decide) h.1 rfl (by rw [joinFields_length h.2]; decide) rfl ?_
  change (partitionOfValues (splitFields partitionWidths (joinFields partitionWidths (partitionValues m)))).map (Instr.tableWritePartition index) = _
  rw [splitFields_joinFields h.2]
  rfl

theorem decodes_writeTiming {index : Nat} {m : TimingImage} (h : (Instr.tableWriteTiming index m).wellFormed = true) :
    Decodes (.tableWriteTiming index m) := by
  simp only [Instr.wellFormed, Bool.and_eq_true] at h
  refine decodes_write (item := itemTiming) (by decide) h.1 rfl (by rw [joinFields_length h.2]; decide) rfl ?_
  change (timingOfValues (splitFields timingWidths (joinFields timingWidths (timingValues m)))).map (Instr.tableWriteTiming index) = _
  rw [splitFields_joinFields h.2]
  rfl

theorem decodes_writeFactorTable {item : FactorItem} {index : Nat} {values : List Nat}
    (h : (Instr.tableWriteFactorTable item index values).wellFormed = true) :
    Decodes (.tableWriteFactorTable item index values) := by
  simp only [Instr.wellFormed, Bool.and_eq_true] at h
  obtain ⟨⟨known, place⟩, fit⟩ := h
  refine decodes_write (factorCode_cases known).1 place rfl ?_ (writeLengthOk_factor known index fit) ?_
  · rw [joinFields_length fit]
    cases item with
    | undefined => exact Nat.zero_le _
    | _ => decide
  · rw [decodeTableWrite_factor known, splitFields_joinFields fit]

theorem decodes_read {c : Instr} {item index : Nat} (code : item < 256) (place : fits 1 index = true)
    (frame : encodeRequest c = some (.C, kindTableRead, [byte item, byte index]))
    (decodes : decodeTableRead item index = c) : Decodes c := by
  refine decodes_of_frame frame (by simp) (decodeFrame_cell (by decide) rfl rfl rfl ?_)
  change some (decodeTableRead (byte item).toNat (byte index).toNat) = _
  rw [byte_toNat code, byte_toNat ((fits_iff ..).mp place), decodes]

theorem decodes_readFactorTable {item : FactorItem} {index : Nat}
    (h : (Instr.tableReadFactorTable item index).wellFormed = true) : Decodes (.tableReadFactorTable item index) := by
  simp only [Instr.wellFormed, Bool.and_eq_true] at h
  exact decodes_read (factorCode_cases h.1).1 h.2 rfl (decodeTableRead_factor h.1 index)

/-- A frame that R172 refuses decodes to its refusal. -/
theorem decodes_frameRefused {p : Port} {kind : Byte} {payload : List Byte}
    (h : (Instr.frameRefused p kind payload).wellFormed = true) (refused : (frameVerdict p kind payload).isSome = true) :
    Decodes (.frameRefused p kind payload) := by
  refine decodes_of_frame rfl (of_decide_eq_true h) ?_
  obtain ⟨result, verdict⟩ := Option.isSome_iff_exists.mp refused
  unfold decodeFrame
  rw [byte, BitVec.ofNat_toNat, BitVec.setWidth_eq, verdict]

/-! ## Every request -/

theorem decodes_of_wellFormed {c : Instr} (h : c.wellFormed = true)
    (refused : ∀ q k bytes, c = .frameRefused q k bytes → (frameVerdict q k bytes).isSome = true) : Decodes c := by
  cases c with
  | jobOpen L => exact decodes_jobOpen L h
  | post L => exact decodes_post L h
  | done L => exact decodes_done L h
  | complRead L => exact decodes_complRead L h
  | jobClose L | next L | resume L =>
    exact decodes_of_frame rfl (Nat.zero_le _) (decodeFrame_head (by decide) (by cases L <;> rfl) rfl rfl rfl)
  | abort source =>
    cases source with
    | head L => exact decodes_abortHead L
    | cell => exact decodes_abortCell h
  | status p =>
    exact decodes_of_frame rfl (Nat.zero_le _)
      (decodeFrame_shared (by decide) (by cases p <;> rfl) rfl rfl)
  | clear => exact decodes_clear h
  | mask => exact decodes_mask h
  | route events => exact decodes_route events
  | counterRead => exact decodes_counterRead h
  | counterReadClear => exact decodes_counterReadClear h
  | tableWriteRecipe => exact decodes_writeRecipe h
  | tableWriteElement => exact decodes_writeElement h
  | tableWriteControl => exact decodes_writeControl h
  | tableWriteFactorTable => exact decodes_writeFactorTable h
  | tableWritePartition => exact decodes_writePartition h
  | tableWriteTiming => exact decodes_writeTiming h
  | tableReadRecipe => exact decodes_read (item := itemRecipe) (by decide) h rfl rfl
  | tableReadSelection item =>
    cases item with
    | element => exact decodes_read (item := itemElement) (by decide) h rfl rfl
    | control => exact decodes_read (item := itemControl) (by decide) h rfl rfl
  | tableReadFactorTable => exact decodes_readFactorTable h
  | tableReadPartition => exact decodes_read (item := itemPartition) (by decide) h rfl rfl
  | tableReadTiming => exact decodes_read (item := itemTiming) (by decide) h rfl rfl
  | modeMirrorOn => exact decodes_modeMirrorOn h
  | modeMirrorOff => exact decodes_of_frame rfl (by decide) (decodeFrame_cell (by decide) rfl rfl rfl rfl)
  | reset => exact decodes_of_frame rfl (by decide) (decodeFrame_cell (by decide) rfl rfl rfl rfl)
  | frameRefused p kind payload => exact decodes_frameRefused h (refused p kind payload rfl)
  | _ => exact decodes_of_none rfl

/-- Settles O3, request by request: the fields of each read back from their places. -/
theorem requestFramesDecode : Obligations.RequestFramesDecode :=
  fun _ p kind payload wellFormed frame refused => decodes_of_wellFormed wellFormed refused p kind payload frame

end Sys2Proof.Machine

/-! PROOFS. How a port judges a frame (O5), and what the receivers do with bytes and whole frames (O6 to O8). -/

namespace Sys2Proof.Machine

/-! ## The verdict of a port (R172) -/

theorem frameVerdict_of_takes {p : Port} {kind : Byte} {payload : List Byte} (takes : takesKind p kind.toNat = true) :
    frameVerdict p kind payload = if lengthOk p kind.toNat payload then none else some .badLength := by
  rw [frameVerdict, takes]
  cases lengthOk p kind.toNat payload <;> rfl

theorem frameVerdict_of_length {p : Port} {kind : Byte} {payload : List Byte} {n : Nat}
    (takes : takesKind p kind.toNat = true) (length : lengthOk p kind.toNat payload = (payload.length == n)) :
    frameVerdict p kind payload = if payload.length = n then none else some .badLength := by
  rw [frameVerdict_of_takes takes, length]
  by_cases h : payload.length = n <;> simp [h]

/-- A head port takes its kinds at these lengths. -/
theorem frameVerdict_head (payload : List Byte) (p : Port) (head : p ≠ .C) :
    ∀ kl ∈ [(0x01#8, 4), (0x02#8, 0), (0x04#8, 0), (0x05#8, 2), (0x06#8, 0), (0x07#8, 0), (0x08#8, 1), (0x10#8, 0),
        (0x11#8, 2), (0x12#8, 2), (0x13#8, 2)],
      frameVerdict p kl.1 payload = if payload.length = kl.2 then none else some .badLength := by
  simp only [List.forall_mem_cons, List.not_mem_nil, false_imp_iff, implies_true, and_true]
  cases p with
  | C => exact absurd rfl head
  | A | B => refine ⟨?_, ?_, ?_, ?_, ?_, ?_, ?_, ?_, ?_, ?_, ?_⟩ <;> exact frameVerdict_of_length rfl rfl

/-- Port C takes its kinds at these lengths. -/
theorem frameVerdict_cell (payload : List Byte) :
    ∀ kl ∈ [(0x06#8, 1), (0x10#8, 0), (0x11#8, 4), (0x12#8, 4), (0x13#8, 2), (0x21#8, 2), (0x22#8, 1), (0x23#8, 2),
        (0x24#8, 0)],
      frameVerdict .C kl.1 payload = if payload.length = kl.2 then none else some .badLength := by
  simp only [List.forall_mem_cons, List.not_mem_nil, false_imp_iff, implies_true, and_true]
  refine ⟨?_, ?_, ?_, ?_, ?_, ?_, ?_, ?_, ?_⟩ <;> exact frameVerdict_of_length rfl rfl

/-- A POST behind its seg_id has the length of its segment kind. -/
theorem postLengthOk_cons (hi lo kind : Byte) (rest : List Byte) :
    postLengthOk (hi :: lo :: kind :: rest) = true ↔
      ¬ (kind = 0x00#8 ∧ rest.length ≠ 3 ∨ kind = 0x01#8 ∧ rest.length ≠ 0 ∧ rest.length ≠ 2 ∨
        kind = 0x02#8 ∧ rest.length ≠ 9 ∨ kind = 0x03#8 ∧ rest.length ≠ 11) := by
  simp only [← BitVec.toNat_inj, BitVec.toNat_ofNat]
  unfold postLengthOk
  dsimp only
  split <;> simp_all [or_iff_not_imp_left]

theorem frameVerdict_post (payload : List Byte) (p : Port) (head : p ≠ .C) :
    frameVerdict p 0x03#8 payload =
      match payload with
      | _ :: _ :: kind :: rest =>
        if kind = 0x00#8 ∧ rest.length ≠ 3 ∨ kind = 0x01#8 ∧ rest.length ≠ 0 ∧ rest.length ≠ 2 ∨
          kind = 0x02#8 ∧ rest.length ≠ 9 ∨ kind = 0x03#8 ∧ rest.length ≠ 11 then some .badLength
        else none
      | _ => some .badLength := by
  have takes : takesKind p (0x03#8).toNat = true := by
    cases p with
    | C => exact absurd rfl head
    | A | B => rfl
  have length : lengthOk p (0x03#8).toNat payload = postLengthOk payload := rfl
  rw [frameVerdict_of_takes takes, length]
  match payload with
  | [] | [_] | [_, _] => rfl
  | hi :: lo :: kind :: rest =>
    exact (if_congr (postLengthOk_cons hi lo kind rest) rfl rfl).trans (ite_not ..)

theorem writeLength_eq {code : Nat} (h : code < 11) :
    writeLength code = some ([26, 32, 8, 8, 20, 16, 23, 12, 3, 22, 31][code]'(by simpa using h) + 2) := by
  interval_cases code <;> rfl

theorem writeLength_none {code : Nat} (h : 11 ≤ code) : writeLength code = none := by
  obtain ⟨k, rfl⟩ := Nat.exists_eq_add_of_le' h
  rfl

theorem writeLengthOk_known {item index : Byte} {values : List Byte} (h : item.toNat < 11) :
    writeLengthOk (item :: index :: values) =
      (values.length == [26, 32, 8, 8, 20, 16, 23, 12, 3, 22, 31][item.toNat]'(by simpa using h)) := by
  unfold writeLengthOk
  dsimp only
  rw [writeLength_eq h]
  simp

theorem writeLengthOk_unknown {item index : Byte} {values : List Byte} (h : 11 ≤ item.toNat) :
    writeLengthOk (item :: index :: values) = true := by
  unfold writeLengthOk
  dsimp only
  rw [writeLength_none h]

theorem frameVerdict_tableWrite (payload : List Byte) :
    frameVerdict .C 0x20#8 payload =
      match payload with
      | item :: _ :: values =>
        if h : item.toNat < 11 then
          if values.length = [26, 32, 8, 8, 20, 16, 23, 12, 3, 22, 31][item.toNat]'(by simpa using h) then none
          else some .badLength
        else none
      | _ => some .badLength := by
  rw [frameVerdict_of_takes rfl, show lengthOk .C (0x20#8).toNat payload = writeLengthOk payload from rfl]
  match payload with
  | [] | [_] => rfl
  | item :: index :: values =>
    by_cases h : item.toNat < 11
    · simp [writeLengthOk_known h, h]
    · simp [writeLengthOk_unknown (Nat.le_of_not_lt h), h]

theorem mem_of_toNat_mem {kind : Byte} {kinds : List Byte} (h : kind.toNat ∈ kinds.map BitVec.toNat) : kind ∈ kinds := by
  obtain ⟨k, mem, same⟩ := List.mem_map.mp h
  exact BitVec.eq_of_toNat_eq same ▸ mem

theorem frameVerdict_unknown (payload : List Byte) (p : Port) (kind : Byte)
    (h : kind ∉ (if p = .C then [0x06#8, 0x10#8, 0x11#8, 0x12#8, 0x13#8, 0x20#8, 0x21#8, 0x22#8, 0x23#8, 0x24#8]
      else [0x01#8, 0x02#8, 0x03#8, 0x04#8, 0x05#8, 0x06#8, 0x07#8, 0x08#8, 0x10#8, 0x11#8, 0x12#8, 0x13#8])) :
    frameVerdict p kind payload = some .badKind := by
  have untaken : takesKind p kind.toNat = false := by
    refine Bool.eq_false_iff.mpr fun takes => h (mem_of_toNat_mem ?_)
    cases p <;> exact of_decide_eq_true takes
  rw [frameVerdict, untaken]
  rfl

/-- Settles O5: the tables by evaluation, the verdict kind by kind, and the reply of the refusal. -/
theorem badFramesAreRefused : Obligations.BadFramesAreRefused := by
  refine ⟨⟨by decide, rfl, rfl, rfl, rfl⟩, frameVerdict_head, frameVerdict_cell, frameVerdict_post,
    frameVerdict_tableWrite, frameVerdict_unknown, fun p kind payload result s h verdict => ?_⟩
  refine congrArg Host.Outcome.next ((State.handOn_of_hands h _).trans ?_)
  rw [State.refuseFrame, verdict]
  exact s.refuse_handed p kind.toNat result

/-! ## One byte, and the discards (R171) -/

section
variable (s : State)

theorem State.unlessHeld_live {s : State} (live : s.resetInput = false) (event : State → State) :
    s.unlessHeld event = event s := by rw [State.unlessHeld, live]; rfl

theorem exec_frameCrcDiscard {s : State} (live : s.resetInput = false) (l : Link) :
    exec (.frameCrcDiscard l) s = .next (s.discardFrame l .addCrc) :=
  congrArg Host.Outcome.next (State.unlessHeld_live live _)

theorem exec_linkByteReceived {s : State} (live : s.resetInput = false) (l : Link) (b : Byte) :
    exec (.linkByteReceived l b) s = .next (s.receiveByte l b) :=
  congrArg Host.Outcome.next (State.unlessHeld_live live _)

theorem exec_gapTimerExpiry {s : State} (live : s.resetInput = false) (l : Link) :
    exec (.gapTimerExpiry l) s = .next (s.gapExpiry l) :=
  congrArg Host.Outcome.next (State.unlessHeld_live live _)

theorem Timer.due_iff (t : Timer) : t.due = true ↔ t = some 0 := beq_iff_eq

/-- Settles O8: the rows of the receiver, and the discard on each link. -/
theorem receiverTakesByteOrDiscards : Obligations.ReceiverTakesByteOrDiscards := by
  refine ⟨fun l b s live => ?_, fun l s live => ?_⟩
  · refine ⟨s.receiveByte l b, exec_linkByteReceived live l b, ?_⟩
    unfold State.receiveByte
    generalize (s.rx l).state = state
    cases state with
    | hunt => rfl
    | header kind =>
      cases kind with
      | none => rfl
      | some kind =>
        dsimp only
        by_cases long : maxPayload < b.toNat
        · rw [if_pos long]
          exact (if_pos long).mpr (exec_frameCrcDiscard live l)
        · rw [if_neg long]
          refine (if_neg long).mpr ?_
          split <;> rfl
    | payload kind len got =>
      dsimp only
      split <;> rfl
    | check kind got high =>
      cases high with
      | none => rfl
      | some high =>
        intro bad
        rw [exec_frameCrcDiscard live l]
        change _ = Host.Outcome.next (s.judgeFrame l kind got [high, b])
        unfold State.judgeFrame
        rw [if_neg bad]
  · refine ⟨?_, fun due => ?_, fun early => ?_⟩
    · rw [exec_frameCrcDiscard live l]
      cases l <;> rfl
    · rw [exec_gapTimerExpiry live l, State.gapExpiry, if_pos ((Timer.due_iff _).mpr due)]
      cases l <;> rfl
    · rw [exec_gapTimerExpiry live l, State.gapExpiry, if_neg (mt (Timer.due_iff _).mp early)]

end

/-! ## A frame, byte by byte -/

theorem State.rx_setRx (s : State) (l : Link) (r : Receiver) : (s.setRx l r).rx l = r := by cases l <;> rfl
theorem State.setRx_setRx (s : State) (l : Link) (r r' : Receiver) : (s.setRx l r).setRx l r' = s.setRx l r' := by
  cases l <;> rfl

/-- The state with these commands waiting. -/
def State.withPending (s : State) (pending : List Instr) : State := { s with pending := pending }

theorem State.withPending_setRx (s : State) (l : Link) (r : Receiver) (pending : List Instr) :
    (s.setRx l r).withPending pending = (s.withPending pending).setRx l r := by cases l <;> rfl

theorem run_cons {s t : State} {c : Instr} {rest : List Instr} (front : s.pending = c :: rest)
    (ran : exec c (s.withPending rest) = .next t) (k : Nat) :
    Host.Core.run Sys2Proof.core (k + 1) s = Host.Core.run Sys2Proof.core k t := by
  have stepped : step s = .next t := by
    unfold step
    rw [front]
    exact ran
  simp only [Host.Core.run, show Sys2Proof.core.step s = .next t from stepped]

/-- These bytes take the receiver of the link from one receive state to another, and change nothing else. -/
def Receives (l : Link) (state : RxState) (bytes : List Byte) (state' : RxState) : Prop :=
  ∀ (s : State) (rest : List Instr) (k : Nat), s.resetInput = false → (s.rx l).state = state →
    s.pending = bytes.map (Instr.linkByteReceived l) ++ rest →
    Host.Core.run Sys2Proof.core (bytes.length + k) s =
      Host.Core.run Sys2Proof.core k ((s.withPending rest).setRx l (.inside state'))

theorem Receives.trans {l : Link} {a b c : RxState} {bytes bytes' : List Byte} (h : Receives l a bytes b)
    (h' : Receives l b bytes' c) : Receives l a (bytes ++ bytes') c := by
  intro s rest k live state pending
  rw [List.map_append, List.append_assoc] at pending
  rw [List.length_append, Nat.add_assoc, h s _ _ live state pending,
    h' _ rest k (by rw [State.setRx_resetInput]; exact live) (by rw [State.rx_setRx]; rfl) (by rw [State.setRx_pending]; rfl),
    State.withPending_setRx, State.setRx_setRx]
  rfl

/-- One byte that a receiver takes. -/
theorem receives_byte {l : Link} {state state' : RxState} {b : Byte}
    (takes : ∀ s : State, (s.rx l).state = state → s.receiveByte l b = s.setRx l (.inside state')) :
    Receives l state [b] state' := by
  intro s rest k live at_state pending
  have state' : ((s.withPending rest).rx l).state = state := by cases l <;> exact at_state
  rw [List.length_singleton, Nat.add_comm, run_cons pending (exec_linkByteReceived (s := s.withPending rest) live l b),
    takes _ state']

section
variable (l : Link) (kind : Byte)

theorem receives_sync : Receives l .hunt [syncByte] (.header none) :=
  receives_byte fun s state => by rw [State.receiveByte, state]; rfl

theorem receives_kind : Receives l (.header none) [kind] (.header (some kind)) :=
  receives_byte fun s state => by rw [State.receiveByte, state]

theorem receives_length {n : Nat} (short : n ≤ 48) :
    Receives l (.header (some kind)) [byte n] (if n = 0 then .check kind [] none else .payload kind n []) :=
  receives_byte fun s state => by
    rw [State.receiveByte, state]
    dsimp only
    rw [byte_toNat (by omega), if_neg (show ¬ maxPayload < n from Nat.not_lt.mpr short)]
    split <;> rfl

theorem receives_payload {len : Nat} {bytes : List Byte} (some? : bytes ≠ []) {got : List Byte}
    (full : got.length + bytes.length = len) :
    Receives l (.payload kind len got) bytes (.check kind (got ++ bytes) none) := by
  induction bytes generalizing got with
  | nil => exact absurd rfl some?
  | cons b bytes ih =>
    by_cases last : bytes = []
    · subst last
      refine receives_byte fun s state => ?_
      rw [State.receiveByte, state]
      exact if_neg (Nat.not_lt.mpr full.ge)
    · have more : got.length + 1 < len := by
        have := List.length_pos_iff.mpr last
        rw [List.length_cons] at full
        omega
      have first : Receives l (.payload kind len got) [b] (.payload kind len (got ++ [b])) :=
        receives_byte fun s state => by
          rw [State.receiveByte, state]
          exact if_pos more
      have rest := ih last (got := got ++ [b]) (by
        rw [List.length_cons] at full
        rw [List.length_append, List.length_singleton]
        omega)
      rw [List.append_assoc] at rest
      exact first.trans rest

/-- The bytes of a frame up to the last of its CRC. -/
theorem receives_frame {payload : List Byte} (short : payload.length ≤ 48) (high : Byte) :
    Receives l .hunt (syncByte :: kind :: byte payload.length :: payload ++ [high])
      (.check kind payload (some high)) := by
  have header := ((receives_sync l).trans (receives_kind l kind)).trans (receives_length l kind short)
  have crc : Receives l (.check kind payload none) [high] (.check kind payload (some high)) :=
    receives_byte fun s state => by rw [State.receiveByte, state]
  by_cases empty : payload = []
  · subst empty
    exact header.trans crc
  · have held : payload.length ≠ 0 := mt List.eq_nil_of_length_eq_zero empty
    rw [if_neg held] at header
    exact (header.trans (receives_payload l kind empty (Nat.zero_add _))).trans crc

end

/-- A whole good frame, byte by byte: it is judged with the receiver hunting and nothing waiting. -/
theorem run_frame {s : State} {l : Link} {kind : Byte} {payload : List Byte} (live : s.resetInput = false)
    (hunts : (s.rx l).state = .hunt) (short : payload.length ≤ 48)
    (pending : s.pending = (wire kind payload).map (Instr.linkByteReceived l)) :
    Host.Core.run Sys2Proof.core (payload.length + 5) s =
      .next (match Link.port? l with
        | some p => ((s.withPending []).setRx l .hunting).acceptFrame p kind payload
        | none => ((s.withPending []).setRx l .hunting).acceptPumpFrame kind payload) := by
  obtain ⟨high, low, crc⟩ : ∃ high low, crcField kind payload = [high, low] := ⟨_, _, rfl⟩
  have bytes : wire kind payload = (syncByte :: kind :: byte payload.length :: payload ++ [high]) ++ [low] := by
    rw [wire, crc]
    simp
  rw [bytes, List.map_append] at pending
  have count : payload.length + 5 = (syncByte :: kind :: byte payload.length :: payload ++ [high]).length + 1 := by
    simp
  rw [count, receives_frame l kind short high s _ 1 live hunts pending,
    run_cons (k := 0) (c := .linkByteReceived l low) (rest := []) (by rw [State.setRx_pending]; rfl)
      (exec_linkByteReceived (by rw [State.withPending_setRx, State.setRx_resetInput]; exact live) l low),
    State.withPending_setRx]
  change Host.Outcome.next _ = _
  congr 1
  rw [State.receiveByte, State.rx_setRx]
  change State.judgeFrame _ l kind payload [high, low] = _
  rw [State.judgeFrame, if_pos crc.symm, State.setRx_setRx]
  rfl

/-- Settles O6: the bytes of the frame bring the receiver to its CRC, and the good frame is counted and joins the line. -/
theorem goodFrameJoinsTheLine : Obligations.GoodFrameJoinsTheLine := by
  intro s p kind payload live hunts short pending
  rw [run_frame live hunts short pending]
  cases p <;> rfl

/-- Settles O7: the same bytes, and then the judgement of the pump link. -/
theorem pumpFrameIsTaken : Obligations.PumpFrameIsTaken := by
  intro s kind payload live hunts short pending hunting
  have ran := run_frame (l := .pump) live hunts short pending
  refine ⟨fun high low status feedback fields => ?_, fun other => ?_⟩
  · subst feedback fields
    rw [ran]
    have pressure : beNat [high, low] = high.toNat * 256 + low.toNat := by simp [beNat]
    have code : beNat [status] = status.toNat := by simp [beNat]
    change Host.Outcome.next (State.takeFeedback hunting (beNat [high, low]) (beNat [status])) = _
    rw [pressure, code]
    exact (congrArg Host.Outcome.next (State.unlessHeld_live (s := hunting) live fun s => s.takeFeedback _ _)).symm
  · rw [ran]
    change Host.Outcome.next (State.acceptPumpFrame hunting kind payload) = _
    rw [State.acceptPumpFrame, if_neg]
    · rfl
    · rintro ⟨feedback, three⟩
      exact other.elim (absurd (BitVec.eq_of_toNat_eq feedback)) (absurd three)

end Sys2Proof.Machine

/-! PROOFS. TABLE_WRITE of a factor table, of the timing parameters and of the partition (O16 to O18). -/

namespace Sys2Proof.Machine

/-! ## Requests of the configuration store -/

theorem exec_tableWriteFactorTable_of_hands {item : FactorItem} {index : Nat} {values : List Nat} {s : State}
    (h : s.hands .C (.tableWriteFactorTable item index values) = true) :
    exec (.tableWriteFactorTable item index values) s = .next ((s.handed .C).writeFactorTable item index values) :=
  congrArg Host.Outcome.next (State.handOn_of_hands h _)

theorem exec_tableWritePartition_of_hands {index : Nat} {m : PartitionImage} {s : State}
    (h : s.hands .C (.tableWritePartition index m) = true) :
    exec (.tableWritePartition index m) s = .next ((s.handed .C).writePartition index m) :=
  congrArg Host.Outcome.next (State.handOn_of_hands h _)

theorem exec_tableWriteTiming_of_hands {index : Nat} {m : TimingImage} {s : State}
    (h : s.hands .C (.tableWriteTiming index m) = true) :
    exec (.tableWriteTiming index m) s = .next ((s.handed .C).writeTiming index m) :=
  congrArg Host.Outcome.next (State.handOn_of_hands h _)

/-! ## Order rules -/

theorem nonDecreasing_iff (values : List Nat) : nonDecreasing values = true ↔ values.Pairwise (· ≤ ·) := by
  rw [← List.isChain_iff_pairwise]
  induction values with
  | nil => simp [nonDecreasing]
  | cons a rest ih =>
    cases rest with
    | nil => simp [nonDecreasing]
    | cons b rest => rw [nonDecreasing, Bool.and_eq_true, decide_eq_true_eq, ih, List.isChain_cons_cons]

theorem nonIncreasing_iff (values : List Nat) : nonIncreasing values = true ↔ values.Pairwise (· ≥ ·) := by
  rw [← List.isChain_iff_pairwise]
  induction values with
  | nil => simp [nonIncreasing]
  | cons a rest ih =>
    cases rest with
    | nil => simp [nonIncreasing]
    | cons b rest => rw [nonIncreasing, Bool.and_eq_true, decide_eq_true_eq, ih, List.isChain_cons_cons]

theorem all_within_iff (lo hi : Nat) (values : List Nat) :
    values.all (within lo hi) = true ↔ ∀ v ∈ values, lo ≤ v ∧ v ≤ hi := by
  simp only [List.all_eq_true, within_iff]

theorem State.not_anyJobOpen_iff (s : State) :
    s.anyJobOpen = false ↔ s.jobless .A = true ∧ s.jobless .B = true := by
  rw [← Bool.not_eq_true, State.anyJobOpen_iff, not_or, Bool.not_eq_false, Bool.not_eq_false]

/-! ## Factor tables (R27) -/

/-- TABLE_WRITE of a factor table, handed on: the checks of R27 behind those of R189. -/
theorem State.writeFactorTable_handed (s : State) (item : FactorItem) (index : Nat) (values : List Nat) :
    (s.handed .C).writeFactorTable item index values =
      if !FactorItem.isDefined item then s.answeredAt .C kindTableWrite .badField []
      else if values.length ≠ factorCount item then s.answeredAt .C kindTableWrite .badLength []
      else if 0 < index then s.answeredAt .C kindTableWrite .badField []
      else if s.anyJobOpen then s.answeredAt .C kindTableWrite .inUse []
      else if !factorInRange item values then s.answeredAt .C kindTableWrite .badField []
      else if !factorOrdered item values then s.answeredAt .C kindTableWrite .tableOrder []
      else
        { s.answeredAt .C kindTableWrite .ok [] with
          config := { s.config with tables := s.config.tables.replace item values } } := by
  simp only [State.writeFactorTable, State.handed_anyJobOpen, State.refuseWrite_handed, State.takeWrite_handed,
    State.handed_config]

/-- Settles O16: for each table its range and its order rule are the model's `factorInRange` and `factorOrdered`. -/
theorem factorTableWriteIsChecked : Obligations.FactorTableWriteIsChecked := by
  unfold Obligations.FactorTableWriteIsChecked
  intro item index values s h refused judged old rising falling
  have taken := (exec_tableWriteFactorTable_of_hands h).trans
    (congrArg Host.Outcome.next (s.writeFactorTable_handed item index values))
  have judged_of {count lo hi : Nat} {ordered : Prop} {tables : FactorTables}
      (defined : FactorItem.isDefined item = true) (length : factorCount item = count)
      (range : factorInRange item values = values.all (within lo hi))
      (order : factorOrdered item values = true ↔ ordered)
      (stored : s.config.tables.replace item values = tables) : judged count lo hi ordered tables := by
    simp only [judged, refused, taken, defined, length, range, stored]
    refine ⟨fun other => ?length, fun same other => ?index, fun same zero => ⟨fun busy => ?busy, fun idle =>
      ⟨fun out => ?range, fun inside unordered => ?order, fun inside sorted => ?taken⟩⟩⟩
    case length => rw [if_neg (by simp), if_pos other]
    case index => rw [if_neg (by simp), if_neg (not_not.mpr same), if_pos (Nat.pos_of_ne_zero other)]
    case busy =>
      rw [if_neg (by simp), if_neg (not_not.mpr same), if_neg (by omega), if_pos (s.anyJobOpen_iff.mpr busy)]
    all_goals
      rw [if_neg (by simp), if_neg (not_not.mpr same), if_neg (by omega),
        if_neg (by rw [s.not_anyJobOpen_iff.mpr idle]; decide)]
    case range =>
      obtain ⟨v, mem, out⟩ := out
      have outside : ¬ values.all (within lo hi) = true := fun all => by
        have := (all_within_iff lo hi values).mp all v mem
        omega
      rw [if_pos (by simpa using outside)]
    case order =>
      rw [if_neg (by simp [(all_within_iff lo hi values).mpr inside]),
        if_pos (by simpa using mt order.mp unordered)]
    case taken =>
      rw [if_neg (by simp [(all_within_iff lo hi values).mpr inside]), if_neg (by simp [order.mpr sorted])]
  cases item with
  | undefined => exact taken
  | qualityMap => exact judged_of rfl rfl rfl (by simp [factorOrdered]) rfl
  | kc => exact judged_of rfl rfl rfl (nonIncreasing_iff values) rfl
  | kp | ka | dq | kr => exact judged_of rfl rfl rfl (nonDecreasing_iff values) rfl

/-! ## Timing parameters (R187) -/

theorem timingInRange_iff (m : TimingImage) :
    timingInRange m = true ↔
      (200 ≤ m.stallLimit ∧ m.stallLimit ≤ 30000) ∧ (500 ≤ m.lockTimeout ∧ m.lockTimeout ≤ 20000) ∧
        (1000 ≤ m.pierceWaitLimit ∧ m.pierceWaitLimit ≤ 60000) ∧ m.standbyPressure ≤ 2000 ∧
        (1 ≤ m.rampStep ∧ m.rampStep ≤ 200) ∧ (5 ≤ m.lossLimit ∧ m.lossLimit ≤ 100) ∧
        (25 ≤ m.band ∧ m.band ≤ 500) ∧ (10 ≤ m.settle ∧ m.settle ≤ 2000) ∧
        (1 ≤ m.assertThreshold ∧ m.assertThreshold ≤ 3000) ∧ m.deassertThreshold ≤ 3000 ∧
        (1 ≤ m.overrideStep ∧ m.overrideStep ≤ 100) ∧ (100 ≤ m.starvationLimit ∧ m.starvationLimit ≤ 10000) ∧
        (1 ≤ m.slotTime ∧ m.slotTime ≤ 20) ∧ m.filterTime ≤ 10 ∧ m.edgePolarity ≤ 2 ∧
        (20 ≤ m.windowLength ∧ m.windowLength ≤ 500) ∧ (1 ≤ m.minimumEdgeCount ∧ m.minimumEdgeCount ≤ 255) ∧
        m.graceTime ≤ 5000 ∧ (1 ≤ m.assertCount ∧ m.assertCount ≤ 15) ∧
        (1 ≤ m.clearCount ∧ m.clearCount ≤ 15) := by
  simp only [timingInRange, Bool.and_eq_true, within_iff, Nat.zero_le, true_and, and_assoc]

theorem polarityOf_eq (code : Nat) :
    polarityOf code = if code = 0 then .rising else if code = 1 then .falling else .both := by
  match code with
  | 0 => rfl
  | 1 => rfl
  | n + 2 => rfl

/-- TABLE_WRITE of the timing parameters, handed on: the checks of R187 behind the index check of R189. -/
theorem State.writeTiming_handed (s : State) (index : Nat) (m : TimingImage) :
    (s.handed .C).writeTiming index m =
      if 0 < index then s.answeredAt .C kindTableWrite .badField []
      else if s.anyJobOpen then s.answeredAt .C kindTableWrite .inUse []
      else if timingInRange m = true ∧ m.deassertThreshold < m.assertThreshold then
        { s.answeredAt .C kindTableWrite .ok [] with config := { s.config with timing := timingOf m } }
      else s.answeredAt .C kindTableWrite .badField [] := by
  simp only [State.writeTiming, State.handed_anyJobOpen, State.refuseWrite_handed, State.takeWrite_handed,
    State.handed_config]
  by_cases ranged : timingInRange m = true
  · by_cases thresholds : m.deassertThreshold < m.assertThreshold <;> simp [ranged, thresholds]
  · simp [ranged]

/-- Settles O18: the checks of R187 are the written-out ranges, in their order. -/
theorem timingWriteIsChecked : Obligations.TimingWriteIsChecked := by
  unfold Obligations.TimingWriteIsChecked
  intro index m s h
  rw [exec_tableWriteTiming_of_hands h, State.writeTiming_handed]
  simp only [State.anyJobOpen_iff, timingInRange_iff, Nat.pos_iff_ne_zero, and_assoc, timingOf, polarityOf_eq]

/-! ## The partition (R42, R43) -/

theorem regionInRange_iff (lo hi : Nat) (r : Region) :
    regionInRange lo hi r = true ↔ r.start ≤ 639 ∧ lo ≤ r.size ∧ r.size ≤ hi ∧ r.start + r.size ≤ 640 := by
  simp only [regionInRange, Bool.and_eq_true, within_iff, decide_eq_true_eq, Nat.zero_le, true_and, and_assoc]

theorem partitionInRange_iff (m : PartitionImage) :
    partitionInRange m = true ↔
      regionInRange 2 256 m.queueA = true ∧ regionInRange 2 256 m.queueB = true ∧
        regionInRange 1 64 m.fifoA = true ∧ regionInRange 1 64 m.fifoB = true ∧
        m.watermarkA ≤ m.queueA.size ∧ m.watermarkB ≤ m.queueB.size ∧ m.modeA ≤ 1 ∧ m.modeB ≤ 1 := by
  simp only [partitionInRange, Bool.and_eq_true, within_iff, flagOk_iff, Nat.zero_le, true_and, and_assoc]

/-- Two regions with slots lie apart exactly when no slot lies in both. -/
theorem apart_iff {r q : Region} (hr : 0 < r.size) (hq : 0 < q.size) :
    apart r q = true ↔ ∀ slot, ¬ (Region.holds r slot ∧ Region.holds q slot) := by
  simp only [apart, Bool.or_eq_true, decide_eq_true_eq, Region.holds]
  constructor
  · intro split slot
    omega
  · intro free
    have atR := free r.start
    have atQ := free q.start
    omega

theorem fifoModeOf_eq {v : Nat} (h : v ≤ 1) : fifoModeOf v = if v = 0 then .keep else .overwrite := by
  interval_cases v <;> rfl

/-- A lane whose queue is emptied to its region and whose FIFO's region goes from `before` to `after` (R43). -/
def LaneUnit.relocated (before after queue : Region) (u : LaneUnit) : LaneUnit :=
  { u with
    queue := .emptied queue
    fifo := if before = after then u.fifo else []
    counters := if before = after then u.counters else u.counters.addLost u.fifo.length }

/-- COMPLETION_LOST for records that a partition write discards (R43). -/
def State.tellMoved (s : State) (L : Lane) (before after : Region) (discarded : List Record) : State :=
  if before = after ∨ discarded = [] then s else s.raiseHead L .completionLost

theorem State.raiseHead_modLane (s : State) (L M : Lane) (e : HeadEvent) (f : LaneUnit → LaneUnit) :
    (s.raiseHead L e).modLane M f = (s.modLane M f).raiseHead L e := by
  unfold State.raiseHead
  extract_lets raised raised'
  have route : (s.modLane M f).route = s.route := by cases M <;> rfl
  rw [route]
  split
  · cases L <;> cases M <;> rfl
  · cases L <;> cases M <;> rfl

theorem State.tellMoved_modLane (s : State) (L M : Lane) (before after : Region) (discarded : List Record)
    (f : LaneUnit → LaneUnit) :
    (s.tellMoved L before after discarded).modLane M f = (s.modLane M f).tellMoved L before after discarded := by
  unfold State.tellMoved
  split
  · rfl
  · exact s.raiseHead_modLane ..

/-- Emptying a lane queue and moving the lane's FIFO, together. -/
theorem State.moveFifo_eq (s : State) (L : Lane) (before after : Region) :
    s.moveFifo L before after =
      (s.modLane L fun u =>
        { u with
          fifo := if before = after then u.fifo else []
          counters := if before = after then u.counters else u.counters.addLost u.fifo.length }).tellMoved L before
        after (s.lane L).fifo := by
  unfold State.moveFifo State.tellMoved
  by_cases same : before = after
  · simp only [same, true_or]
    cases L <;> rfl
  · simp only [same, false_or, List.length_pos_iff, ne_eq, ite_not]
    cases L <;> rfl

theorem State.modLane_modLane (s : State) (L : Lane) (f g : LaneUnit → LaneUnit) :
    (s.modLane L f).modLane L g = s.modLane L fun u => g (f u) := by
  cases L <;> rfl

theorem State.tellMoved_lane (s : State) (L M : Lane) (before after : Region) (discarded : List Record) :
    (s.tellMoved L before after discarded).lane M = s.lane M := by
  unfold State.tellMoved
  split
  · rfl
  · exact s.raiseHead_lane ..

/-- A taken partition write moves both lanes, and then tells of the records it discarded. -/
theorem State.moveFifos_eq (t : State) (p old : Partition) (here : t.config.partition = p) :
    (((t.emptyQueue .A).emptyQueue .B).moveFifo .A old.fifoA p.fifoA).moveFifo .B old.fifoB p.fifoB =
      (({ t with
          laneA := t.laneA.relocated old.fifoA p.fifoA p.queueA
          laneB := t.laneB.relocated old.fifoB p.fifoB p.queueB } : State).tellMoved .A old.fifoA p.fifoA
        t.laneA.fifo).tellMoved .B old.fifoB p.fifoB t.laneB.fifo := by
  subst here
  rw [State.moveFifo_eq, State.moveFifo_eq, State.tellMoved_modLane, State.tellMoved_lane]
  rfl

theorem State.repartition_handed (s : State) (p : Partition) :
    (s.handed .C).repartition p =
      (({ s.answeredAt .C kindTableWrite .ok [] with
          config := { s.config with partition := p }
          laneA := s.laneA.relocated s.config.partition.fifoA p.fifoA p.queueA
          laneB := s.laneB.relocated s.config.partition.fifoB p.fifoB p.queueB } : State).tellMoved .A
        s.config.partition.fifoA p.fifoA s.laneA.fifo).tellMoved .B s.config.partition.fifoB p.fifoB s.laneB.fifo := by
  rw [State.repartition_eq, State.takeWrite_handed, State.handed_config]
  exact State.moveFifos_eq _ p s.config.partition rfl

/-- TABLE_WRITE of the partition, handed on: the checks of R42 behind the index check of R189. -/
theorem State.writePartition_handed (s : State) (index : Nat) (m : PartitionImage) :
    (s.handed .C).writePartition index m =
      if 0 < index then s.answeredAt .C kindTableWrite .badField []
      else if s.anyJobOpen then s.answeredAt .C kindTableWrite .inUse []
      else if !partitionInRange m then s.answeredAt .C kindTableWrite .badField []
      else if !regionsApart m.queueA m.queueB m.fifoA m.fifoB then s.answeredAt .C kindTableWrite .overlap []
      else (s.handed .C).repartition (partitionOf m) := by
  simp only [State.writePartition, State.handed_anyJobOpen, State.refuseWrite_handed]

theorem regionsApart_iff {a b c d : Region} (ha : 0 < a.size) (hb : 0 < b.size) (hc : 0 < c.size) (hd : 0 < d.size) :
    regionsApart a b c d = true ↔
      (∀ slot, ¬ (Region.holds a slot ∧ Region.holds b slot)) ∧
        (∀ slot, ¬ (Region.holds a slot ∧ Region.holds c slot)) ∧
        (∀ slot, ¬ (Region.holds a slot ∧ Region.holds d slot)) ∧
        (∀ slot, ¬ (Region.holds b slot ∧ Region.holds c slot)) ∧
        (∀ slot, ¬ (Region.holds b slot ∧ Region.holds d slot)) ∧
        (∀ slot, ¬ (Region.holds c slot ∧ Region.holds d slot)) := by
  simp only [regionsApart, Bool.and_eq_true, apart_iff ha hb, apart_iff ha hc, apart_iff ha hd, apart_iff hb hc,
    apart_iff hb hd, apart_iff hc hd, and_assoc]

/-- Settles O17: the checks of R42 one by one, and the move of `State.repartition_handed` behind them. -/
theorem partitionWriteMovesTheStore : Obligations.PartitionWriteMovesTheStore := by
  unfold Obligations.PartitionWriteMovesTheStore
  intro index m s h inside inRange free disjoint jobs refused old mode moved told
  have ranged_iff : partitionInRange m = true ↔ inRange := by
    simp only [partitionInRange_iff, regionInRange_iff, inRange, inside]
  have apart_iff' (ranged : inRange) : regionsApart m.queueA m.queueB m.fifoA m.fifoB = true ↔ disjoint := by
    obtain ⟨⟨-, queueA, -⟩, ⟨-, queueB, -⟩, ⟨-, fifoA, -⟩, ⟨-, fifoB, -⟩, -⟩ := ranged
    exact regionsApart_iff (by omega) (by omega) fifoA fifoB
  have taken := (exec_tableWritePartition_of_hands h).trans
    (congrArg Host.Outcome.next (s.writePartition_handed index m))
  refine ⟨fun other => ?index, fun zero busy => ?busy, fun zero idle out => ?range, fun zero idle ranged overlap =>
    ?overlap, fun zero idle ranged split => ?taken⟩
  case index => exact taken.trans (by rw [if_pos (Nat.pos_of_ne_zero other)])
  case busy => exact taken.trans (by rw [if_neg (by omega), if_pos (s.anyJobOpen_iff.mpr busy)])
  case range =>
    have outside : (!partitionInRange m) = true := by simpa using mt ranged_iff.mp out
    exact taken.trans (by rw [if_neg (by omega), if_neg (mt s.anyJobOpen_iff.mp idle), if_pos outside])
  all_goals
    rw [if_neg (by omega), if_neg (mt s.anyJobOpen_iff.mp idle), if_neg (by simp [ranged_iff.mpr ranged])] at taken
  case overlap =>
    have shared : (!regionsApart m.queueA m.queueB m.fifoA m.fifoB) = true := by
      simpa using mt (apart_iff' ranged).mp overlap
    exact taken.trans (by rw [if_pos shared])
  case taken =>
    rw [if_neg (by simp [(apart_iff' ranged).mpr split]), State.repartition_handed] at taken
    obtain ⟨-, -, -, -, -, -, modeA, modeB⟩ := ranged
    have stored : partitionOf m =
        { queueA := m.queueA, queueB := m.queueB, fifoA := m.fifoA, fifoB := m.fifoB, watermarkA := m.watermarkA,
          watermarkB := m.watermarkB, modeA := mode m.modeA, modeB := mode m.modeB } := by
      simp only [partitionOf, fifoModeOf_eq modeA, fifoModeOf_eq modeB, mode]
    rw [stored] at taken
    exact taken

end Sys2Proof.Machine

/-! PROOFS. TABLE_READ (O19) and STATUS (O10). -/

namespace Sys2Proof.Machine

/-! ## Layouts (R188) -/

theorem beBytes_one (v : Nat) : beBytes 1 v = [byte v] := by simp [beBytes, byte]

theorem joinFields_cons (w v : Nat) (ws vs : List Nat) :
    joinFields (w :: ws) (v :: vs) = beBytes w v ++ joinFields ws vs := rfl

theorem joinFields_nil (vs : List Nat) : joinFields [] vs = [] := rfl

theorem joinFields_replicate (n w : Nat) (values : List Nat) :
    joinFields (List.replicate n w) values = (values.take n).flatMap (beBytes w) := by
  induction n generalizing values with
  | zero => rfl
  | succ n ih =>
    cases values with
    | nil => rfl
    | cons v rest => rw [List.replicate_succ, joinFields_cons, ih, List.take_succ_cons, List.flatMap_cons]

theorem flatMap_beBytes_one (values : List Nat) : values.flatMap (beBytes 1) = values.map byte := by
  rw [funext beBytes_one, ← List.map_eq_flatMap]

theorem byte_flagNat (b : Bool) : byte (flagNat b) = if b then 0x01#8 else 0x00#8 := by cases b <;> rfl

/-! ## TABLE_READ (R190) -/

@[simp] theorem State.answerRead_handed (s : State) (item index : Nat) (widths values : List Nat) :
    (s.handed .C).answerRead item index widths values =
      s.answeredAt .C kindTableRead .ok (byte item :: byte index :: joinFields widths values) :=
  State.reply_handed ..

@[simp] theorem State.refuseRead_handed (s : State) :
    (s.handed .C).refuseRead = s.answeredAt .C kindTableRead .badField [] :=
  State.refuse_handed ..

section
variable {s : State}

theorem exec_tableReadRecipe_of_hands {index : Nat} (h : s.hands .C (.tableReadRecipe index) = true) :
    exec (.tableReadRecipe index) s =
      .next (if 31 < index then s.answeredAt .C kindTableRead .badField []
        else s.answeredAt .C kindTableRead .ok (byte 6 :: byte index ::
          joinFields recipeWidths (recipeValues (recipeImage (s.config.recipes.getD index .powerOn))))) :=
  congrArg Host.Outcome.next ((State.handOn_of_hands h _).trans (by
    simp only [State.readRecipe, State.refuseRead_handed, State.answerRead_handed, State.handed_config, itemRecipe,
      recipeMax]))

theorem exec_tableReadElement_of_hands {index : Nat} (h : s.hands .C (.tableReadSelection .element index) = true) :
    exec (.tableReadSelection .element index) s =
      .next (if 47 < index then s.answeredAt .C kindTableRead .badField []
        else s.answeredAt .C kindTableRead .ok (byte 7 :: byte index ::
          joinFields elementWidths (elementValues (elementImage (s.config.elements.getD index .powerOn))))) :=
  congrArg Host.Outcome.next ((State.handOn_of_hands h _).trans (by
    simp only [State.readSelection, State.refuseRead_handed, State.answerRead_handed, State.handed_config,
      itemElement, elementMax]))

theorem exec_tableReadControl_of_hands {index : Nat} (h : s.hands .C (.tableReadSelection .control index) = true) :
    exec (.tableReadSelection .control index) s =
      .next (if 0 < index then s.answeredAt .C kindTableRead .badField []
        else s.answeredAt .C kindTableRead .ok (byte 8 :: byte index ::
          joinFields controlWidths (controlValues (controlImage s.config.control)))) :=
  congrArg Host.Outcome.next ((State.handOn_of_hands h _).trans (by
    simp only [State.readSelection, State.refuseRead_handed, State.answerRead_handed, State.handed_config,
      itemControl]))

theorem exec_tableReadFactorTable_of_hands {item : FactorItem} {index : Nat}
    (h : s.hands .C (.tableReadFactorTable item index) = true) :
    exec (.tableReadFactorTable item index) s =
      .next (if !FactorItem.isDefined item then s.answeredAt .C kindTableRead .badField []
        else if 0 < index then s.answeredAt .C kindTableRead .badField []
        else s.answeredAt .C kindTableRead .ok (byte (factorCode item) :: byte index ::
          joinFields (factorWidths item) (s.config.tables.values item))) :=
  congrArg Host.Outcome.next ((State.handOn_of_hands h _).trans (by
    simp only [State.readFactorTable, State.refuseRead_handed, State.answerRead_handed, State.handed_config]))

theorem exec_tableReadPartition_of_hands {index : Nat} (h : s.hands .C (.tableReadPartition index) = true) :
    exec (.tableReadPartition index) s =
      .next (if 0 < index then s.answeredAt .C kindTableRead .badField []
        else s.answeredAt .C kindTableRead .ok (byte 9 :: byte index ::
          joinFields partitionWidths (partitionValues (partitionImage s.config.partition)))) :=
  congrArg Host.Outcome.next ((State.handOn_of_hands h _).trans (by
    simp only [State.readPartition, State.refuseRead_handed, State.answerRead_handed, State.handed_config,
      itemPartition]))

theorem exec_tableReadTiming_of_hands {index : Nat} (h : s.hands .C (.tableReadTiming index) = true) :
    exec (.tableReadTiming index) s =
      .next (if 0 < index then s.answeredAt .C kindTableRead .badField []
        else s.answeredAt .C kindTableRead .ok (byte 10 :: byte index ::
          joinFields timingWidths (timingValues (timingImage s.config.timing)))) :=
  congrArg Host.Outcome.next ((State.handOn_of_hands h _).trans (by
    simp only [State.readTiming, State.refuseRead_handed, State.answerRead_handed, State.handed_config, itemTiming]))

end

/-- Settles O19: each read answers the layout of the stored item, and refuses the indexes and items that none has. -/
theorem tableReadsShowTheStore : Obligations.TableReadsShowTheStore := by
  unfold Obligations.TableReadsShowTheStore
  intro s read refused two flag
  have factor (item : FactorItem) (defined : FactorItem.isDefined item = true) (n w : Nat)
      (widths : factorWidths item = List.replicate n w) :
      read (.tableReadFactorTable item 0) (factorCode item) 0
        (((s.config.tables.values item).take n).flatMap (beBytes w)) := fun h => by
    rw [exec_tableReadFactorTable_of_hands h, defined, widths, joinFields_replicate]
    rfl
  have quality (h : s.hands .C (.tableReadFactorTable .qualityMap 0) = true) := factor .qualityMap rfl 8 1 rfl h
  refine ⟨fun index r small stored h => ?recipe, fun index large h => ?noRecipe, fun index e small stored h => ?element,
    fun index large h => ?noElement, fun h => ?control, fun index large h => ?noControl,
    ⟨factor .kp rfl 13 2 rfl, factor .ka rfl 16 2 rfl, factor .dq rfl 4 2 rfl, fun h => ?quality,
      factor .kc rfl 10 2 rfl, factor .kr rfl 8 2 rfl⟩, fun item index large h => ?noTable,
    fun code index h => exec_tableReadFactorTable_of_hands h, fun h => ?partition, fun index large h => ?noPartition,
    fun h => ?timing, fun index large h => ?noTiming⟩
  case noRecipe => rw [exec_tableReadRecipe_of_hands h, if_pos large]
  case noElement => rw [exec_tableReadElement_of_hands h, if_pos large]
  case noControl => rw [exec_tableReadControl_of_hands h, if_pos large]
  case noTable => rw [exec_tableReadFactorTable_of_hands h, if_pos large, ite_self]
  case noPartition => rw [exec_tableReadPartition_of_hands h, if_pos large]
  case noTiming => rw [exec_tableReadTiming_of_hands h, if_pos large]
  case quality => rw [quality h, flatMap_beBytes_one]; rfl
  case recipe =>
    rw [exec_tableReadRecipe_of_hands h, if_neg (Nat.not_lt.mpr small), List.getD_eq_getElem?_getD, stored]
    simp only [recipeWidths, recipeValues, recipeImage, Option.getD_some, joinFields_cons, joinFields_nil, beBytes_one,
      byte_flagNat, List.append_assoc, List.append_nil, List.cons_append, List.nil_append, two, flag]
  case element =>
    rw [exec_tableReadElement_of_hands h, if_neg (Nat.not_lt.mpr small), List.getD_eq_getElem?_getD, stored]
    simp only [elementWidths, elementValues, elementImage, Option.getD_some, joinFields_cons, joinFields_nil,
      beBytes_one, byte_flagNat, List.append_assoc, List.append_nil, List.cons_append, List.nil_append, two, flag]
    cases e.type <;> cases e.action <;> rfl
  case control =>
    rw [exec_tableReadControl_of_hands h]
    simp only [controlWidths, controlValues, controlImage, joinFields_cons, joinFields_nil, beBytes_one,
      List.cons_append, List.nil_append, flag]
    cases s.config.control.policy <;> rfl
  case partition =>
    rw [exec_tableReadPartition_of_hands h]
    simp only [partitionWidths, partitionValues, partitionImage, joinFields_cons, joinFields_nil, beBytes_one,
      List.append_assoc, List.append_nil, List.cons_append, List.nil_append, two, flag]
    cases s.config.partition.modeA <;> cases s.config.partition.modeB <;> rfl
  case timing =>
    rw [exec_tableReadTiming_of_hands h]
    simp only [timingWidths, timingValues, timingImage, joinFields_cons, joinFields_nil, beBytes_one,
      List.append_assoc, List.append_nil, List.cons_append, List.nil_append, two]
    cases s.config.timing.edgePolarity <;> rfl

/-! ## STATUS (R177) -/

/-- What a STATUS does in the event in which it is handed on. -/
theorem exec_status_of_hands {p : Port} {s : State} (h : s.hands p (.status p) = true) :
    exec (.status p) s =
      .next { s.answeredAt p kindStatus .ok ((s.handed p).statusBody p) with freeUsed := s.freeUsed + 5 } := by
  have taken : exec (.status p) s = .next ((s.handed p).takeStatus p) :=
    congrArg Host.Outcome.next (State.handOn_of_hands h _)
  rw [taken, State.takeStatus, State.reply_handed]
  cases p <;> rfl

theorem State.handed_headStatus (s : State) (p : Port) (L : Lane) : (s.handed p).headStatus L = s.headStatus L := by
  cases p <;> rfl

theorem State.handed_deviceStatus (s : State) (p : Port) : (s.handed p).deviceStatus = s.deviceStatus := by
  cases p <;> rfl

theorem State.handed_laneSummary (s : State) (p : Port) (L : Lane) (used : Nat) :
    (s.handed p).laneSummary L used = s.laneSummary L used := by
  cases p <;> rfl

theorem freeBytes_length (used n : Nat) : (freeBytes used n).length = n := by simp [freeBytes]

theorem releasedBytes_length (used : Nat) (r : Released) : (releasedBytes used r).length = 3 := by
  cases r with
  | none => exact freeBytes_length used 3
  | segment | repierce => rfl

theorem lastSegIdBytes_length (used : Nat) (n : Option Nat) : (lastSegIdBytes used n).length = 2 := by
  cases n with
  | none => exact freeBytes_length used 2
  | some => rfl

/-- The parts of a head port's STATUS (R177). -/
theorem State.headStatus_parts (s : State) (L : Lane) :
    let u := s.lane L
    let q := u.seq
    let body := s.headStatus L
    body.length = 12 ∧
      body.take 4 =
        [byte (laneStateCode q.state),
          byte (flagNat q.nextPending + 2 * flagNat q.postedJet + 4 * flagNat q.repierceFlag +
            8 * flagNat (q.repierceKind == some .kerf) + 16 * flagNat (q.released != .none) +
            32 * flagNat q.lastSegId.isSome),
          byte (waitReasonCode q.wait), byte ((q.faultCause.map faultCauseCode).getD 0)] ∧
      (body.drop 4).take 3 = releasedBytes s.freeUsed q.released ∧
      (body.drop 7).take 2 = lastSegIdBytes (s.freeUsed + 3) q.lastSegId ∧
      body.drop 9 = beBytes 2 u.queue.entries.length ++ [byte u.fifo.length] := by
  intro u q body
  have body_eq : body = s.headStatus L := rfl
  clear_value body
  rw [State.headStatus] at body_eq
  obtain ⟨r0, r1, r2, released⟩ := List.length_eq_three.mp (releasedBytes_length s.freeUsed q.released)
  obtain ⟨n0, n1, last⟩ := List.length_eq_two.mp (lastSegIdBytes_length (s.freeUsed + 3) q.lastSegId)
  have flags : flagBits [q.nextPending, q.postedJet, q.repierceFlag, q.repierceKind == some .kerf, q.released != .none,
      q.lastSegId.isSome] =
        flagNat q.nextPending + 2 * flagNat q.postedJet + 4 * flagNat q.repierceFlag +
          8 * flagNat (q.repierceKind == some .kerf) + 16 * flagNat (q.released != .none) +
          32 * flagNat q.lastSegId.isSome := by
    simp only [flagBits]
    omega
  rw [released, last, ← flags, body_eq]
  simp only [u, q] at released last ⊢
  rw [released, last]
  exact ⟨rfl, rfl, rfl, rfl, rfl⟩

theorem State.laneSummary_parts (s : State) (L : Lane) (used : Nat) :
    let u := s.lane L
    let part := s.laneSummary L used
    part.length = 12 ∧
      part.take 8 =
        [byte (laneStateCode u.seq.state)] ++ beBytes 2 u.gov.current ++ beBytes 2 u.gov.lastSent ++
          [byte (flagNat u.gov.starved + 2 * flagNat u.gov.starvationTimer.isSome + 4 * flagNat u.gen.running +
              8 * flagNat (u.filter.accepted == .high) + 32 * flagNat u.mon.lastWindow.isSome +
              64 * (match u.mon.grace with
                | .stopped => 0
                | .running _ => 1
                | _ => 2)),
            byte u.gen.level, byte (u.gen.pendingLevel.getD 0)] ∧
      (u.gen.slot < 16 →
        (part.drop 8).take 3 =
          [byte (u.gen.slot + 16 * u.mon.badCount), byte u.mon.goodCount, byte u.mon.edgeCount]) ∧
      ∀ n, u.mon.lastWindow = some n → part[11]? = some (byte n) := by
  intro u part
  have flags : flagBits [u.gov.starved, u.gov.starvationTimer.isSome, u.gen.running, u.filter.accepted == .high, false,
      u.mon.lastWindow.isSome] + 64 * graceCode u.mon.grace =
        flagNat u.gov.starved + 2 * flagNat u.gov.starvationTimer.isSome + 4 * flagNat u.gen.running +
          8 * flagNat (u.filter.accepted == .high) + 32 * flagNat u.mon.lastWindow.isSome +
          64 * (match u.mon.grace with
            | .stopped => 0
            | .running _ => 1
            | _ => 2) := by
    have grace : graceCode u.mon.grace =
        (match u.mon.grace with
          | .stopped => 0
          | .running _ => 1
          | _ => 2) := by
      cases u.mon.grace <;> rfl
    have clear : flagNat false = 0 := rfl
    rw [grace]
    simp only [flagBits, clear]
    omega
  refine ⟨?_, ?_, fun small => ?_, fun n counted => ?_⟩
  · simp only [part, State.laneSummary, List.length_append, List.length_cons, List.length_nil, beBytes_length]
    cases (s.lane L).mon.lastWindow <;> rfl
  · rw [← flags]
    rfl
  · simp only [part, State.laneSummary]
    rw [Nat.mod_eq_of_lt small]
    rfl
  · simp only [part, State.laneSummary]
    rw [counted]
    rfl

theorem State.deviceStatus_length (s : State) : s.deviceStatus.length = 21 := by
  have queue (used : Nat) (q : List PierceEntry) : (pierceQueueBytes used q).length = 6 := by
    match q with
    | [] => rfl
    | [e] => rfl
    | e :: d :: rest => rfl
  simp only [State.deviceStatus, List.length_append, List.length_cons, List.length_nil, beBytes_length, queue]

/-- The device part of port C's STATUS with the bytes of the pierce queue in between. -/
theorem State.deviceStatus_eq (s : State) :
    s.deviceStatus =
      [byte (flagNat s.mirror + 2 * flagNat s.inhibit + 4 * flagNat s.monitor.lastRun + 8 * flagNat s.monitor.lost +
          16 * flagNat s.monitor.locked + 32 * flagNat s.monitor.settleTimer.isSome + 64 * flagNat s.monitor.alarm),
        holderByte s.arbiter.holder s.arbiter.queue.length] ++
        beBytes 2 ((s.arbiter.holder.map Holder.pressure).getD 0) ++
        pierceQueueBytes s.freeUsed s.arbiter.queue ++ beBytes 2 s.arbiter.target ++ beBytes 2 s.monitor.ramped ++
        beBytes 2 s.monitor.filtered ++
        [byte (s.monitor.history.length % 16 + 16 * lossReasonCode s.monitor.lossReason),
          byte (pumpStatusCode s.monitor.lastStatus)] ++
        beBytes 2 (s.monitor.lastRipple.getD 65535) ++ [0] := by
  have flags (a b c d e f g : Bool) : flagBits [a, b, c, d, e, f, g] =
      flagNat a + 2 * flagNat b + 4 * flagNat c + 8 * flagNat d + 16 * flagNat e + 32 * flagNat f + 64 * flagNat g := by
    simp only [flagBits]
    omega
  rw [State.deviceStatus, flags]

theorem pierceQueueBytes_length (used : Nat) (q : List PierceEntry) : (pierceQueueBytes used q).length = 6 := by
  match q with
  | [] => rfl
  | [e] => rfl
  | e :: d :: rest => rfl

theorem pierceEntryBytes_eq (e : PierceEntry) :
    pierceEntryBytes e =
      byte (flagNat (e.lane == .B) + 2 * flagNat (e.kind == .kerf) + 4 * flagNat e.waitTimer.isNone) ::
        beBytes 2 e.pressure := by
  have flags (a b c : Bool) : flagBits [a, b, c] = flagNat a + 2 * flagNat b + 4 * flagNat c := by
    simp only [flagBits]
    omega
  rw [pierceEntryBytes, pierceEntryFlags, flags]

/-- The parts of port C's STATUS about the device, whatever summaries of the lanes follow (R177). -/
theorem State.deviceStatus_parts (s : State) (rest : List Byte) :
    let m := s.monitor
    let a := s.arbiter
    let body := s.deviceStatus ++ rest
    body[0]? =
        some (byte (flagNat s.mirror + 2 * flagNat s.inhibit + 4 * flagNat m.lastRun + 8 * flagNat m.lost +
          16 * flagNat m.locked + 32 * flagNat m.settleTimer.isSome + 64 * flagNat m.alarm)) ∧
      body[1]? = some (holderByte a.holder a.queue.length) ∧
      (body.drop 2).take 2 = beBytes 2 ((a.holder.map Holder.pressure).getD 0) ∧
      (body.drop 4).take 3 = (pierceQueueBytes s.freeUsed a.queue).take 3 ∧
      (body.drop 7).take 3 = (pierceQueueBytes s.freeUsed a.queue).drop 3 ∧
      (body.drop 10).take 6 = beBytes 2 a.target ++ beBytes 2 m.ramped ++ beBytes 2 m.filtered ∧
      body[16]? = some (byte (m.history.length % 16 + 16 * lossReasonCode m.lossReason)) ∧
      body[17]? = some (byte (pumpStatusCode m.lastStatus)) ∧
      (body.drop 18).take 3 = beBytes 2 (m.lastRipple.getD 65535) ++ [0x00#8] ∧
      body.drop 21 = rest := by
  intro m a body
  have body_eq : body = s.deviceStatus ++ rest := rfl
  clear_value body
  have length := pierceQueueBytes_length s.freeUsed a.queue
  rw [State.deviceStatus_eq] at body_eq
  change _ = _ ++ pierceQueueBytes s.freeUsed a.queue ++ _ ++ _ ++ _ ++ _ ++ _ ++ _ ++ _ at body_eq
  match pierceQueueBytes s.freeUsed a.queue, length, body_eq with
  | [q0, q1, q2, q3, q4, q5], _, body_eq =>
    subst body_eq
    exact ⟨rfl, rfl, rfl, rfl, rfl, rfl, rfl, rfl, rfl, rfl⟩

/-- The first of the two entries of the pierce queue in STATUS. -/
theorem pierceQueueBytes_head {used : Nat} {q : List PierceEntry} {e : PierceEntry} (head : q.head? = some e) :
    (pierceQueueBytes used q).take 3 = pierceEntryBytes e := by
  match q with
  | [d] => cases head; rfl
  | d :: d' :: rest => cases head; rfl

/-- The second of the two entries of the pierce queue in STATUS. -/
theorem pierceQueueBytes_second (used : Nat) (q : List PierceEntry) :
    (pierceQueueBytes used q).drop 3 = (q[1]?.map pierceEntryBytes).getD [0x00#8, 0x00#8, 0x00#8] := by
  match q with
  | [] => rfl
  | [d] => rfl
  | d :: d' :: rest => rfl

/-- Settles O10: the bodies of `State.headStatus_parts`, `State.deviceStatus_eq` and `State.laneSummary_parts`. -/
theorem statusShowsTheState : Obligations.StatusShowsTheState := by
  unfold Obligations.StatusShowsTheState
  refine ⟨⟨rfl, rfl, rfl, rfl, rfl, fun _ _ _ _ => rfl⟩, ?head, ?cell⟩
  case head =>
    intro L s h u q
    have body : (s.handed L.port).statusBody L.port = s.headStatus L := by
      rw [← s.handed_headStatus L.port]
      cases L <;> rfl
    have taken := exec_status_of_hands h
    rw [body] at taken
    obtain ⟨length, flags, released, last, levels⟩ := s.headStatus_parts L
    refine ⟨_, taken, length, flags, fun e is => ?_, fun segId kind is => ?_, fun n is => ?_, levels⟩
    · rw [released, is]
      rfl
    · rw [released, is]
      rfl
    · rw [last, is]
      rfl
  case cell =>
    intro s h m a
    have taken := exec_status_of_hands h
    have body : (s.handed .C).statusBody .C =
        s.deviceStatus ++ (s.laneSummary .A (s.freeUsed + 3) ++ s.laneSummary .B (s.freeUsed + 4)) :=
      List.append_assoc ..
    rw [body] at taken
    have lengthA := (s.laneSummary_parts .A (s.freeUsed + 3)).1
    have lengthB := (s.laneSummary_parts .B (s.freeUsed + 4)).1
    obtain ⟨flags, holder, pressure, first, second, pressures, history, status, ripple, lanes⟩ :=
      s.deviceStatus_parts (s.laneSummary .A (s.freeUsed + 3) ++ s.laneSummary .B (s.freeUsed + 4))
    refine ⟨_, taken, ?length, flags, fun few => ?holder, ?pressure, fun e head => ?first, ?second, pressures,
      fun few => ?history, status, ripple, fun L => ?lane⟩
    case length => rw [List.length_append, List.length_append, s.deviceStatus_length, lengthA, lengthB]
    case holder =>
      rw [holder, holderByte.eq_def, Nat.mod_eq_of_lt few]
      rcases a.holder with _ | ⟨_ | _, kind, held⟩ <;> rfl
    case pressure =>
      rw [pressure]
      cases a.holder <;> rfl
    case first => rw [first, pierceQueueBytes_head head, pierceEntryBytes_eq]
    case second =>
      rw [second, pierceQueueBytes_second]
      cases a.queue[1]? with
      | none => rfl
      | some e => exact pierceEntryBytes_eq e
    case history => rw [history, Nat.mod_eq_of_lt few]
    case lane =>
      intro u part
      have part_eq : ∃ used, part = s.laneSummary L used := by
        cases L with
        | A =>
          refine ⟨s.freeUsed + 3, ?_⟩
          simp only [part, if_pos]
          rw [lanes, List.take_left' lengthA]
        | B =>
          refine ⟨s.freeUsed + 4, ?_⟩
          have skip (bytes : List Byte) : bytes.drop 33 = (bytes.drop 21).drop 12 := by
            rw [List.drop_drop]
          simp only [part, reduceCtorEq, if_false]
          rw [skip, lanes, List.drop_left' lengthA, List.take_of_length_le lengthB.le]
      obtain ⟨used, part_eq⟩ := part_eq
      rw [part_eq]
      exact (s.laneSummary_parts L used).2

end Sys2Proof.Machine

/-! PROOFS. What the operations of a lane and of the arbiter leave, written out as one change of the lane. -/

namespace Sys2Proof.Machine

section
variable (s : State) (L : Lane)

/-! ## Entry to READY, the release of the head, the end of what is released -/

/-- Entry to READY (R88) is a STOP and one change of the lane. -/
theorem State.enterReady_eq : s.enterReady L = (s.meterStop L).modLane L LaneUnit.atReady := by
  unfold State.enterReady
  generalize s.meterStop L = t
  cases L <;> rfl

/-- The lane that gives the grant back holds it no longer (R105). -/
theorem State.giveBack_eq :
    s.giveBack L = s.modArbiter fun a =>
      { a with holder := if (a.holder.map Holder.lane) = some L then none else a.holder } := by
  unfold State.giveBack
  congr 1
  funext a
  rcases a with ⟨queue, holder, target⟩
  cases holder with
  | none => rfl
  | some h =>
    simp only [Option.map_some, Option.some.injEq]
    split <;> rfl

/-- The head leaves the queue, and QUEUE_LOW tells of the fill below the watermark (R51, R68). -/
def State.tellLow (t : State) : State :=
  if 0 < s.watermark L ∧ s.fill L = s.watermark L then t.raiseHead L .queueLow else t

/-- A lane whose queue head becomes the released segment. -/
def LaneUnit.withHeadReleased (region : Region) (e : Entry) (u : LaneUnit) : LaneUnit :=
  { u with
    queue := { entries := u.queue.entries.tail, put := u.queue.put, get := nextSlot region u.queue.get }
    seq := { u.seq with released := .segment e, elapsed := some 0, nextPending := false, wait := .none } }

theorem State.tellLow_modLane (t : State) (f : LaneUnit → LaneUnit) :
    (s.tellLow L t).modLane L f = s.tellLow L (t.modLane L f) := by
  unfold State.tellLow
  split
  · exact State.raiseHead_modLane ..
  · rfl

theorem State.releaseHead_eq (e : Entry) :
    s.releaseHead L e = s.tellLow L (s.modLane L (.withHeadReleased (s.queueRegion L) e)) := by
  have taken : s.dequeue L = s.tellLow L (s.modQueue L fun q =>
      { q with entries := q.entries.tail, get := nextSlot (s.queueRegion L) q.get }) := rfl
  have asLane (t : State) :
      ((t.modSeq L fun q => { q with released := .segment e, elapsed := some 0 }).answerNext L) =
        t.modLane L fun u =>
          { u with seq := { u.seq with
              released := .segment e, elapsed := some 0, nextPending := false, wait := .none } } := by
    cases L <;> rfl
  rw [State.releaseHead, taken, asLane, State.tellLow_modLane]
  cases L <;> rfl

/-- A lane with nothing released any more (R140, R142). -/
theorem State.endReleased_eq :
    s.endReleased L = s.modLane L fun u =>
      { u with
        seq := { u.seq with released := .none, elapsed := none }
        gov := { u.gov with starved := false, starvationTimer := none, segmentMin := none } } := by
  cases L <;> rfl

end

end Sys2Proof.Machine

/-! PROOFS. JOB_OPEN and JOB_CLOSE (O21, O22). -/

namespace Sys2Proof.Machine

theorem State.modSeq_modLane (s : State) (L : Lane) (f : LaneUnit → LaneUnit) (g : Sequencer → Sequencer) :
    (s.modLane L f).modSeq L g = s.modLane L fun u => { f u with seq := g (f u).seq } :=
  State.modLane_modLane ..

/-! ## JOB_OPEN (R14) -/

theorem exec_jobOpen_of_hands {L : Lane} {material thickness : Nat} {s : State}
    (h : s.hands L.port (.jobOpen L material thickness) = true) :
    exec (.jobOpen L material thickness) s = .next ((s.handed L.port).takeJobOpen L material thickness) :=
  congrArg Host.Outcome.next (State.handOn_of_hands h _)

/-- A lane as a taken JOB_OPEN leaves it. -/
def LaneUnit.opened (recipe : Option Nat) (u : LaneUnit) : LaneUnit :=
  { u.atReady with
    seq := { u.seq.atReady with
      recipe := recipe, nextPending := false, wait := .none, repierceFlag := false, repierceKind := none,
      faultCause := none, postedJet := false, lastSegId := none } }

theorem State.openJob_eq (s : State) (L : Lane) (recipe : Option Nat) :
    s.openJob L recipe = ((s.meterStop L).modLane L (.opened recipe)).conclude := by
  rw [State.openJob, State.enterReady_eq, State.modSeq_modLane]
  rfl

/-- JOB_OPEN, handed on: the checks of R14 in their order. -/
theorem State.takeJobOpen_handed (s : State) (L : Lane) (material thickness : Nat) :
    let sel := s.config.select material thickness
    (s.handed L.port).takeJobOpen L material thickness =
      if s.laneState L = .mirrored then s.answeredAt L.port kindJobOpen .mirrored []
      else if !within 10 1000 thickness then s.answeredAt L.port kindJobOpen .badField []
      else if s.laneState L ≠ .closed then s.answeredAt L.port kindJobOpen .jobActive []
      else if !sel.succeeds then s.answeredAt L.port kindJobOpen .noRecipe (selectionBody sel)
      else (s.answeredAt L.port kindJobOpen .ok (selectionBody sel)).openJob L sel.recipe := by
  intro sel
  simp only [State.takeJobOpen, State.handed_laneState, State.handed_config, State.refuse_handed, State.reply_handed, sel]

/-- Settles O21: the checks of R14, and entry to READY as `State.openJob_eq` writes it out. -/
theorem jobOpenEntersReady : Obligations.JobOpenEntersReady := by
  unfold Obligations.JobOpenEntersReady
  intro L material thickness s h sel body opened
  have outside : (!within 10 1000 thickness) = true ↔ thickness < 10 ∨ 1000 < thickness := by
    rw [Bool.not_eq_true', ← Bool.not_eq_true, within_iff]
    omega
  rw [exec_jobOpen_of_hands h, State.takeJobOpen_handed]
  simp only [outside, State.openJob_eq, Bool.not_eq_true']
  rfl

/-! ## JOB_CLOSE (R15) -/

theorem exec_jobClose_of_hands {L : Lane} {s : State} (h : s.hands L.port (.jobClose L) = true) :
    exec (.jobClose L) s = .next ((s.handed L.port).takeJobClose L) :=
  congrArg Host.Outcome.next (State.handOn_of_hands h _)

/-- JOB_CLOSE, handed on: taken or refused by the lane's state. -/
theorem State.takeJobClose_handed (s : State) (L : Lane) :
    (s.handed L.port).takeJobClose L =
      match s.laneState L with
      | .closed => s.answeredAt L.port kindJobClose .noJob []
      | .mirrored => s.answeredAt L.port kindJobClose .mirrored []
      | .ready =>
        if s.fill L = 0 then (s.answeredAt L.port kindJobClose .ok []).closeJob L
        else s.answeredAt L.port kindJobClose .queueNotEmpty []
      | _ => s.answeredAt L.port kindJobClose .busy [] := by
  rw [State.takeJobClose, State.handed_laneState]
  cases s.laneState L <;> simp only [State.handed_fill, State.refuse_handed, State.reply_handed]

/-- An empty pierce queue leaves the arbiter nothing but the target. -/
theorem State.arbitrateFor_of_nil {s : State} (empty : s.arbiter.queue = []) (told : Option Lane) (rounds : Nat) :
    s.arbitrateFor told rounds = s.retarget := by
  cases rounds with
  | zero => rfl
  | succ rounds => rw [State.arbitrateFor, empty]

theorem State.arbitrate_of_nil {s : State} (empty : s.arbiter.queue = []) : s.arbitrate = s.retarget :=
  State.arbitrateFor_of_nil empty ..

theorem State.setTarget_target (s : State) (n : Nat) : (s.setTarget n).arbiter.target = n := by
  unfold State.setTarget
  split
  case isTrue same => exact same.symm
  case isFalse => rw [State.judgeLock_arbiter]; rfl

theorem State.targetRule_of_jobless {s : State} (jobless : s.anyJobOpen = false) : s.targetRule = 0 := by
  rw [State.targetRule, jobless, Bool.not_false, Bool.or_true, if_pos rfl]

/-- With an empty pierce queue and no job open an event ends with the target at 0. -/
theorem State.conclude_target_of_jobless {s : State} (empty : s.arbiter.queue = []) (jobless : s.anyJobOpen = false) :
    s.conclude.arbiter.target = 0 := by
  rw [State.conclude, State.closeTick_arbiter, State.arbitrate_of_nil empty, State.retarget, State.setTarget_target,
    State.targetRule_of_jobless jobless]

/-- Where a READY lane's queue is empty and the other lane has no job open, no lane waits for a pierce. -/
theorem WaitsInOrder.queue_nil_of_empty {s : State} {L : Lane} (h : WaitsInOrder s) (ready : s.laneState L = .ready)
    (empty : s.fill L = 0) (other : s.jobless L.other = true) : s.arbiter.queue = [] := by
  refine List.eq_nil_iff_forall_not_mem.mpr fun e mem => ?_
  obtain ⟨waiting, -, pierce⟩ := h.waiting e mem
  obtain here | there : e.lane = L ∨ e.lane = L.other := by cases L <;> cases e.lane <;> simp [Lane.other]
  · have none : s.queueHead e.lane = none := by
      rw [here, State.queueHead, List.eq_nil_of_length_eq_zero empty, List.head?_nil]
    obtain ⟨e', head, -⟩ := pierce
    exact absurd (none.symm.trans head) (Option.some_ne_none e').symm
  · rw [State.jobless, ← there, waiting] at other
    exact absurd other (by decide)

theorem State.jobless_congr {s t : State} {L : Lane} (state : t.laneState L = s.laneState L) :
    t.jobless L = s.jobless L := by
  rw [State.jobless, State.jobless, state]

/-- A lane is CLOSED while the other has no job open: no job is open. -/
theorem State.not_anyJobOpen_of_closed {s : State} {L : Lane} {f : Sequencer → Sequencer}
    (other : s.jobless L.other = true) (closes : (f (s.lane L).seq).state = .closed) :
    (s.modSeq L f).anyJobOpen = false := by
  have here : (s.modSeq L f).jobless L = true := by
    rw [State.jobless, State.modSeq_laneState, closes]
    rfl
  have there : (s.modSeq L f).jobless L.other = true :=
    (State.jobless_congr (State.modLane_laneState_of_ne (by cases L <;> decide) _)).trans other
  rw [State.not_anyJobOpen_iff]
  cases L
  · exact ⟨here, there⟩
  · exact ⟨there, here⟩

/-- Settles O22: JOB_CLOSE by the lane's state; the target is 0 by `State.conclude_target_of_jobless`. -/
theorem jobCloseDropsTheJob : Obligations.JobCloseDropsTheJob := by
  unfold Obligations.JobCloseDropsTheJob
  intro L s h refused
  have taken := (exec_jobClose_of_hands h).trans (congrArg Host.Outcome.next (s.takeJobClose_handed L))
  cases state : s.laneState L with
  | ready =>
    rw [state] at taken
    refine ⟨fun held => ?held, fun empty => ?empty⟩
    case held => exact taken.trans (by rw [if_neg held])
    case empty =>
      rw [if_pos empty] at taken
      refine ⟨taken, fun ordered other t ends => ?_⟩
      obtain rfl := Host.Outcome.next.inj (taken.symm.trans ends)
      refine State.conclude_target_of_jobless ?_ ?_
      · rw [State.modSeq_arbiter, State.answeredAt_arbiter]
        exact ordered.queue_nil_of_empty state empty other
      · exact State.not_anyJobOpen_of_closed ((State.jobless_congr (State.answeredAt_laneState ..)).trans other) rfl
  | _ =>
    rw [state] at taken
    exact taken

end Sys2Proof.Machine

/-! PROOFS. POST: the checks (O24) and what an accepted one leaves (O25). -/

namespace Sys2Proof.Machine

/-! ## The checks of a POST -/

theorem exec_post_of_hands {L : Lane} {segId : Nat} {body : PostBody} {s : State}
    (h : s.hands L.port (.post L segId body) = true) :
    exec (.post L segId body) s = .next ((s.handed L.port).takePost L segId body) :=
  congrArg Host.Outcome.next (State.handOn_of_hands h _)

@[simp] theorem State.handed_queueRegion (s : State) (p : Port) (L : Lane) :
    (s.handed p).queueRegion L = s.queueRegion L := by
  cases p <;> rfl

/-- A POST of a lane with a job open, handed on: the checks of R46 behind the first two. -/
theorem State.takePost_of_jobOpen {s : State} {L : Lane} (job : s.jobless L = false) (segId : Nat) (body : PostBody) :
    (s.handed L.port).takePost L segId body =
      if !postInRange body then s.answeredAt L.port kindPost .badField []
      else if !followsLast (s.lane L).seq.lastSegId segId then s.answeredAt L.port kindPost .outOfSequence []
      else
        match body with
        | .unknownKind _ => s.answeredAt L.port kindPost .badField []
        | .known seg =>
          let fSeg := segmentFeed s.config.tables (s.recipe L) seg
          if !jetAgrees seg (s.lane L).seq.postedJet then s.answeredAt L.port kindPost .jetState []
          else if (s.queueRegion L).size ≤ s.fill L then s.answeredAt L.port kindPost .queueFull []
          else if Segment.isCut seg && decide (fSeg < (s.recipe L).feedFloor) then
            s.answeredAt L.port kindPost .belowFloor (beBytes 2 segId ++ beBytes 2 fSeg)
          else (s.handed L.port).acceptPost L segId seg fSeg := by
  obtain ⟨closed, mirrored⟩ : s.laneState L ≠ .closed ∧ s.laneState L ≠ .mirrored := by
    simpa [State.jobless] using job
  unfold State.takePost
  rw [State.handed_laneState, if_neg closed, if_neg mirrored]
  cases body <;>
    simp only [State.handed_lane, State.handed_config, State.handed_recipe, State.handed_fill,
      State.handed_queueRegion, State.refuse_handed, State.reply_handed]

/-- A cut whose fields lie in their ranges (R47). -/
theorem cutInRange_iff (c : Cut) :
    cutInRange c = true ↔
      1 ≤ c.length ∧ c.length ≤ 600000 ∧ c.entryDir ≤ 3599 ∧ c.exitDir ≤ 3599 ∧ c.quality ≤ 7 := by
  simp only [cutInRange, Bool.and_eq_true, within_iff, Nat.zero_le, true_and, and_assoc]

theorem followsLast_iff (last : Option Nat) (segId : Nat) :
    followsLast last segId = true ↔ ∀ n, last = some n → segId = (n + 1) % 65536 := by
  cases last with
  | none => exact iff_of_true rfl nofun
  | some n => simp [followsLast]

/-- A check that holds does not refuse. -/
theorem bnot_ne_true {check : Bool} (passes : check = true) : ¬ (!check) = true := by
  rw [passes]
  decide

/-- Settles O24: the first check that fails, by `State.takePost_of_jobOpen`. -/
theorem postIsCheckedInOrder : Obligations.PostIsCheckedInOrder := by
  unfold Obligations.PostIsCheckedInOrder
  intro L segId body s h q cutFits inRange follows agrees feed isCut refused
  have ranged_iff : postInRange body = true ↔ inRange := by
    cases body with
    | unknownKind => exact iff_of_false Bool.false_ne_true id
    | known seg =>
      rcases seg with length | (_ | dwell) | c | ⟨c, radius⟩
      · exact within_iff ..
      · exact iff_of_true rfl trivial
      · exact within_iff ..
      · simp only [postInRange, Bool.and_eq_true, cutInRange_iff, beq_iff_eq, inRange, cutFits]
      · simp only [postInRange, Bool.and_eq_true, cutInRange_iff, within_iff, inRange, cutFits]
  refine ⟨fun closed => ?closed, fun mirrored => ?mirrored, fun job => ?job⟩
  case closed =>
    refine (exec_post_of_hands h).trans (congrArg _ ?_)
    rw [State.takePost.eq_def, State.handed_laneState, if_pos closed, State.refuse_handed]
  case mirrored =>
    refine (exec_post_of_hands h).trans (congrArg _ ?_)
    rw [State.takePost.eq_def, State.handed_laneState, if_neg (by rw [mirrored]; decide), if_pos mirrored,
      State.refuse_handed]
  case job =>
    have taken := (exec_post_of_hands h).trans (congrArg Host.Outcome.next (State.takePost_of_jobOpen job segId body))
    refine ⟨fun out => ?range, fun ranged => ⟨fun skips => ?sequence, fun following => ?_⟩⟩
    case range => exact taken.trans (by rw [if_pos (by simpa using mt ranged_iff.mp out)])
    all_goals rw [if_neg (bnot_ne_true (ranged_iff.mpr ranged))] at taken
    case sequence => exact taken.trans (by rw [if_pos (by simpa using mt (followsLast_iff ..).mp skips)])
    rw [if_neg (bnot_ne_true ((followsLast_iff ..).mpr following))] at taken
    cases body with
    | unknownKind => exact absurd ranged id
    | known seg =>
      dsimp only at taken
      have agrees_iff : jetAgrees seg q.postedJet = true ↔ agrees := by
        cases seg <;> simp [jetAgrees, Segment.isCut, Segment.cut?, agrees]
      have isCut_iff : Segment.isCut seg = true ↔ isCut := by
        cases seg <;> simp [Segment.isCut, Segment.cut?, isCut]
      refine ⟨fun differs => ?jet, fun agreeing => ⟨fun full => ?full, fun room cut below => ?floor⟩⟩
      case jet => exact taken.trans (by rw [if_pos (by simpa using mt agrees_iff.mp differs)])
      all_goals rw [if_neg (bnot_ne_true (agrees_iff.mpr agreeing))] at taken
      case full => exact taken.trans (by rw [if_pos full])
      case floor =>
        refine taken.trans ?_
        rw [if_neg (Nat.not_le.mpr room), if_pos]
        exact Bool.and_eq_true_iff.mpr ⟨isCut_iff.mpr cut, decide_eq_true below⟩

/-! ## An accepted POST -/

/-- A lane with a POST stored (R50): the tail as the new segment finalises it, and the new entry behind it. -/
def LaneUnit.posted (region : Region) (segId : Nat) (seg : Segment) (fSeg : Nat) (finalised : Option Entry)
    (u : LaneUnit) : LaneUnit :=
  { u with
    queue := { u.queue with
      entries := (match finalised with
        | some e => u.queue.entries.dropLast ++ [e]
        | none => u.queue.entries) ++ [newEntry segId seg fSeg]
      put := nextSlot region u.queue.put }
    seq := { u.seq with lastSegId := some segId, postedJet := postedJetAfter seg u.seq.postedJet } }

theorem State.storePost_eq (s : State) (L : Lane) (segId : Nat) (seg : Segment) (fSeg : Nat) :
    s.storePost L segId seg fSeg =
      s.modLane L (.posted (s.queueRegion L) segId seg fSeg (s.finalisedTail L seg fSeg)) := by
  unfold State.storePost
  cases s.finalisedTail L seg fSeg <;> cases L <;> rfl

/-- What an accepted POST leaves, handed on. -/
theorem State.acceptPost_handed (s : State) (L : Lane) (segId : Nat) (seg : Segment) (fSeg : Nat) :
    let finalised := s.finalisedTail L seg fSeg
    let stored := (s.answeredAt L.port kindPost .ok (postBody segId fSeg finalised)).modLane L
      (.posted (s.queueRegion L) segId seg fSeg finalised)
    (s.handed L.port).acceptPost L segId seg fSeg =
      if (s.lane L).seq.nextPending then (stored.attempt L false).conclude
      else if s.fill L = 0 then stored.conclude
      else stored := by
  intro finalised stored
  have tail : (s.handed L.port).finalisedTail L seg fSeg = finalised := by cases L <;> rfl
  have replied (body : List Byte) :
      (s.answeredAt L.port kindPost .ok body).storePost L segId seg fSeg =
        (s.answeredAt L.port kindPost .ok body).modLane L (.posted (s.queueRegion L) segId seg fSeg finalised) := by
    rw [State.storePost_eq]
    cases L <;> rfl
  rw [State.acceptPost, tail, State.reply_handed, State.handed_lane, State.handed_fill, replied]

theorem clampFeed_eq (f : Nat) : clampFeed f = if f = 0 then 1 else if 6000 < f then 6000 else f := by
  unfold clampFeed
  split
  · omega
  · split <;> omega

/-- Settles O25: an accepted POST passes every check, and stores what `State.acceptPost_handed` says. -/
theorem acceptedPostIsQueued : Obligations.AcceptedPostIsQueued := by
  unfold Obligations.AcceptedPostIsQueued
  intro L segId seg s h t r q straight closed clamped feed cut? entry finalised before region jet stored answer t' job
    ranged follows agrees room floor
  have feed_eq : segmentFeed t r seg = feed := by
    cases seg with
    | traverse | pierce => rfl
    | line c => exact clampFeed_eq _
    | arc c radius => exact clampFeed_eq _
  have cut_eq : Segment.cut? seg = cut? := by cases seg <;> rfl
  have entry_eq : newEntry segId seg feed = entry := by
    simp only [newEntry, cut_eq, entry]
    cases cut? with
    | none => rfl
    | some c => cases ends : c.endJetOff <;> simp [ends]
  have finalised_eq : s.finalisedTail L seg feed = finalised := by
    simp only [State.finalisedTail, State.queueTail, finalise, cut_eq, finalised]
    cases (s.lane L).queue.entries.getLast? with
    | none => rfl
    | some e =>
      rcases e with ⟨segId, tail, fSeg, fJunc, junction⟩
      cases cut? <;> cases junction <;> cases tail <;> rfl
  have body_eq : postBody segId feed finalised = answer := by
    simp only [postBody, answer]
    cases finalised <;> rfl
  have enough : (Segment.isCut seg && decide (feed < r.feedFloor)) = false := by
    rw [Segment.isCut, cut_eq, Bool.and_eq_false_imp]
    exact fun cut => decide_eq_false (Nat.not_lt.mpr (floor cut))
  rw [exec_post_of_hands h, State.takePost_of_jobOpen job, if_neg (bnot_ne_true ranged), if_neg (bnot_ne_true follows)]
  dsimp only
  rw [if_neg (bnot_ne_true agrees), if_neg (Nat.not_le.mpr room), feed_eq, if_neg (Bool.eq_false_iff.mp enough),
    State.acceptPost_handed, finalised_eq, body_eq]
  have stored_eq : (s.answeredAt L.port kindPost .ok answer).modLane L
      (.posted (s.queueRegion L) segId seg feed finalised) = t' := by
    refine State.modLane_congr ?_
    rw [State.answeredAt_lane, LaneUnit.posted.eq_def, entry_eq]
    cases seg <;> rfl
  rw [stored_eq]
  simp only [State.fill, List.length_eq_zero_iff]
  rfl

end Sys2Proof.Machine

/-! PROOFS. The release attempt (O27). -/

namespace Sys2Proof.Machine

/-! ## What a release attempt reads of the part -/

/-- Two states agree in what a lane's release and its asking for a pierce read. -/
structure State.SameHead (s t : State) (L : Lane) : Prop where
  config : t.config = s.config
  queue : (t.lane L).queue = (s.lane L).queue
  recipe : (t.lane L).seq.recipe = (s.lane L).seq.recipe
  waiting : t.arbiter.queue = s.arbiter.queue

section
variable {s t : State} {L : Lane}

theorem State.SameHead.watermark (h : s.SameHead t L) : t.watermark L = s.watermark L := by
  cases L <;> simp only [State.watermark, h.config]

theorem State.SameHead.queueRegion (h : s.SameHead t L) : t.queueRegion L = s.queueRegion L := by
  cases L <;> simp only [State.queueRegion, h.config]

theorem State.SameHead.fill (h : s.SameHead t L) : t.fill L = s.fill L := by simp only [State.fill, h.queue]

theorem State.SameHead.queueHead (h : s.SameHead t L) : t.queueHead L = s.queueHead L := by
  simp only [State.queueHead, h.queue]

theorem State.SameHead.recipe_eq (h : s.SameHead t L) : t.recipe L = s.recipe L := by
  simp only [State.recipe, h.config, h.recipe]

theorem State.SameHead.tellLow (h : s.SameHead t L) : t.tellLow L = s.tellLow L := by
  funext u
  simp only [State.tellLow, h.watermark, h.fill]

theorem State.SameHead.modLane (h : s.SameHead t L) {f : LaneUnit → LaneUnit}
    (queue : (f (t.lane L)).queue = (t.lane L).queue) (recipe : (f (t.lane L)).seq.recipe = (t.lane L).seq.recipe) :
    s.SameHead (t.modLane L f) L where
  config := (t.modLane_config L f).trans h.config
  queue := by rw [State.modLane_lane, queue, h.queue]
  recipe := by rw [State.modLane_lane, recipe, h.recipe]
  waiting := by rw [State.modLane_arbiter, h.waiting]

theorem State.SameHead.refl (s : State) (L : Lane) : s.SameHead s L := ⟨rfl, rfl, rfl, rfl⟩

/-- A lane waits in the pierce queue (R94), with what it asks for read from the state `s`. -/
def State.withAsked (s : State) (L : Lane) (kind : PierceKind) (t : State) : State :=
  (if s.arbiter.queue.any fun e => e.lane == L then t
  else
    t.modArbiter fun a =>
      { a with
        queue := a.queue ++
          [{ lane := L, kind := kind, pressure := (s.recipe L).pPierce,
             waitTimer := some s.config.timing.pierceWaitLimit, noticeGiven := false }] }).modSeq L fun q =>
    { q with wait := .pierceQueue }

theorem State.SameHead.askPierce (h : s.SameHead t L) (kind : PierceKind) :
    t.askPierce L kind = s.withAsked L kind t := by
  simp only [State.askPierce, State.withAsked, State.hasEntry, h.waiting, h.recipe_eq, h.config]
  rfl

/-! ## The cases of an attempt (R65 to R68) -/

/-- A lane whose repierce flag is clear. -/
def LaneUnit.unflagged (u : LaneUnit) : LaneUnit :=
  { u with seq := { u.seq with repierceFlag := false, repierceKind := none } }

/-- A RELEASE notice, unless the reply to the NEXT tells of the release. -/
def State.noticeUnless (t : State) (told : Bool) (L : Lane) (e : Entry) : State :=
  if told then t else t.noticeRelease L e

theorem State.releaseTraverse_eq (s : State) (L : Lane) (e : Entry) (told : Bool) :
    (s.clearRepierce L).releaseTraverse L e told =
      ((s.tellLow L (s.modLane L fun u => u.unflagged.withHeadReleased (s.queueRegion L) e)).modSeq L fun q =>
        { q with state := .traversing }).noticeUnless told L e := by
  have same : s.SameHead (s.modLane L LaneUnit.unflagged) L := (State.SameHead.refl s L).modLane rfl rfl
  have cleared : s.clearRepierce L = s.modLane L LaneUnit.unflagged := rfl
  rw [cleared, State.releaseTraverse, State.releaseHead_eq, same.tellLow, same.queueRegion, State.modLane_modLane]
  rfl

theorem State.modSeq_modGov (s : State) (L : Lane) (f : Sequencer → Sequencer) (g : Governor → Governor) :
    (s.modSeq L f).modGov L g = s.modLane L fun u => { u with seq := f u.seq, gov := g u.gov } := by
  cases L <;> rfl

theorem State.releaseCut_eq (s : State) (L : Lane) (e : Entry) (told : Bool) :
    s.releaseCut L e told =
      ((s.tellLow L (s.modLane L (.withHeadReleased (s.queueRegion L) e))).modLane L fun u =>
        { u with
          seq := { u.seq with state := .cutting, stallTimer := none, stepCount := 0 }
          gov := { u.gov with lastSent := 1000, segmentMin := some 1000 } }).noticeUnless told L e := by
  rw [State.releaseCut, State.releaseHead_eq, State.modSeq_modGov]
  rfl

theorem State.attempt_of_not_pending (pending : (s.lane L).seq.nextPending = false) (told : Bool) :
    s.attempt L told = s := by
  rw [State.attempt, pending]
  rfl

theorem State.attempt_of_other (ready : s.laneState L ≠ .ready) (openIdle : s.laneState L ≠ .openIdle) (told : Bool) :
    s.attempt L told = s := by
  unfold State.attempt
  split
  case isFalse => rfl
  case isTrue =>
    cases state : s.laneState L with
    | ready => exact absurd state ready
    | openIdle => exact absurd state openIdle
    | _ => rfl

theorem State.attempt_of_ready (pending : (s.lane L).seq.nextPending = true) (ready : s.laneState L = .ready)
    (told : Bool) : s.attempt L told = s.attemptReady L told := by
  rw [State.attempt, pending, ready]
  rfl

theorem State.attempt_of_openIdle (pending : (s.lane L).seq.nextPending = true) (idle : s.laneState L = .openIdle)
    (told : Bool) : s.attempt L told = s.attemptOpenIdle L told := by
  rw [State.attempt, pending, idle]
  rfl

theorem State.attemptReady_of_none (head : s.queueHead L = none) (told : Bool) :
    s.attemptReady L told = s.setWait L .empty := by
  rw [State.attemptReady, head]

theorem State.attemptReady_of_traverse {e : Entry} {length : Nat} (head : s.queueHead L = some e)
    (seg : e.seg = .traverse length) (told : Bool) :
    s.attemptReady L told = (s.clearRepierce L).releaseTraverse L e told := by
  rw [State.attemptReady, head]
  simp only [seg]

theorem State.attemptReady_of_pierce {e : Entry} {dwell : Option Nat} (head : s.queueHead L = some e)
    (seg : e.seg = .pierce dwell) (told : Bool) :
    s.attemptReady L told = s.withAsked L .full (s.modLane L LaneUnit.unflagged) := by
  have same : s.SameHead (s.modLane L LaneUnit.unflagged) L := (State.SameHead.refl s L).modLane rfl rfl
  rw [State.attemptReady, head, ← same.askPierce]
  simp only [seg]
  rfl

theorem Segment.cases_of_isCut {seg : Segment} (cut : Segment.isCut seg = true) :
    (∃ c, seg = .line c) ∨ ∃ c radius, seg = .arc c radius := by
  cases seg with
  | line c => exact .inl ⟨c, rfl⟩
  | arc c radius => exact .inr ⟨c, radius, rfl⟩
  | traverse | pierce => cases cut

theorem State.attemptReady_of_cut {e : Entry} {kind : PierceKind} (head : s.queueHead L = some e)
    (cut : Segment.isCut e.seg = true) (flag : (s.lane L).seq.repierceFlag = true)
    (owed : (s.lane L).seq.repierceKind = some kind) (told : Bool) :
    s.attemptReady L told = s.withAsked L kind s := by
  rw [State.attemptReady, head, ← (State.SameHead.refl s L).askPierce]
  obtain ⟨c, seg⟩ | ⟨c, radius, seg⟩ := Segment.cases_of_isCut cut <;> simp only [seg, flag, owed]

theorem State.attemptReady_of_clear {e : Entry} (head : s.queueHead L = some e) (cut : Segment.isCut e.seg = true)
    (clear : (s.lane L).seq.repierceFlag = false ∨ (s.lane L).seq.repierceKind = none) (told : Bool) :
    s.attemptReady L told = s := by
  rw [State.attemptReady, head]
  obtain ⟨c, seg⟩ | ⟨c, radius, seg⟩ := Segment.cases_of_isCut cut
  all_goals
    simp only [seg]
    obtain flag | kind := clear
    · rw [flag]
    · rw [kind]
      cases (s.lane L).seq.repierceFlag <;> rfl

theorem State.attemptOpenIdle_of_none (head : s.queueHead L = none) (told : Bool) :
    s.attemptOpenIdle L told = s.setWait L .empty := by
  rw [State.attemptOpenIdle, head]

theorem State.attemptOpenIdle_of_other {e : Entry} (head : s.queueHead L = some e)
    (other : Segment.isCut e.seg = false) (told : Bool) : s.attemptOpenIdle L told = s := by
  rw [State.attemptOpenIdle, head]
  simp only [other, Bool.false_eq_true, if_false]

theorem State.attemptOpenIdle_of_provisional {e : Entry} (head : s.queueHead L = some e)
    (cut : Segment.isCut e.seg = true) (open? : e.junction = .provisional) (told : Bool) :
    s.attemptOpenIdle L told = s.setWait L .lookahead := by
  rw [State.attemptOpenIdle, head]
  simp only [cut, open?, if_true]

theorem State.attemptOpenIdle_of_final {e : Entry} (head : s.queueHead L = some e)
    (cut : Segment.isCut e.seg = true) (final : e.junction = .final) (told : Bool) :
    s.attemptOpenIdle L told = s.releaseCut L e told := by
  rw [State.attemptOpenIdle, head]
  simp only [cut, final, if_true]

end

/-- Settles O27: the attempt follows the cases of the queue head. -/
theorem releaseAttemptFollowsTheHead : Obligations.ReleaseAttemptFollowsTheHead := by
  unfold Obligations.ReleaseAttemptFollowsTheHead
  intro L s live q region waits told low released unflagged asked outcome
  have taken : exec (.releaseAttempt L) s = .next (s.attempt L false).conclude :=
    congrArg Host.Outcome.next (State.unlessHeld_live live _)
  have outcome_of {t : State} (leaves : s.attempt L false = t) : outcome t := leaves ▸ taken
  refine ⟨fun pending => ?pending, fun _ ready idle => ?other, fun pending ready => ?ready, fun pending idle => ?idle⟩
  case pending => exact outcome_of (State.attempt_of_not_pending pending _)
  case other => exact outcome_of (State.attempt_of_other ready idle _)
  case ready =>
    have attempted := State.attempt_of_ready pending ready false
    cases head : s.queueHead L with
    | none => exact outcome_of (attempted.trans (State.attemptReady_of_none head _))
    | some e =>
      rcases e with ⟨segId, seg, fSeg, fJunc, junction⟩
      cases seg with
      | traverse =>
        exact outcome_of (attempted.trans ((State.attemptReady_of_traverse head rfl _).trans
          (State.releaseTraverse_eq ..)))
      | pierce => exact outcome_of (attempted.trans (State.attemptReady_of_pierce head rfl _))
      | line | arc =>
        exact fun kind flag owed => outcome_of (attempted.trans (State.attemptReady_of_cut head rfl flag owed _))
  case idle =>
    have attempted := State.attempt_of_openIdle pending idle false
    cases head : s.queueHead L with
    | none => exact outcome_of (attempted.trans (State.attemptOpenIdle_of_none head _))
    | some e =>
      intro cut
      rcases e with ⟨segId, seg, fSeg, fJunc, junction⟩
      cases junction with
      | provisional => exact outcome_of (attempted.trans (State.attemptOpenIdle_of_provisional head cut rfl _))
      | final =>
        exact outcome_of (attempted.trans ((State.attemptOpenIdle_of_final head cut rfl _).trans
          (State.releaseCut_eq ..)))

end Sys2Proof.Machine

/-! PROOFS. The judgement of the head entry (O37), the grant (O38), and NEXT (O26). -/

namespace Sys2Proof.Machine

/-! ## How many entries wait in the pierce queue -/

section
variable (s : State) (L : Lane)

theorem State.waiting_length_of_view {s t : State} (h : t.view = s.view) :
    t.arbiter.queue.length = s.arbiter.queue.length := by
  simpa only [List.length_map] using congrArg List.length (State.view_waiting h)

theorem State.attempt_waiting_of_openIdle (idle : s.laneState L = .openIdle) (told : Bool) :
    (s.attempt L told).arbiter.queue = s.arbiter.queue := by
  have releaseCut (e : Entry) : (s.releaseCut L e told).arbiter.queue = s.arbiter.queue := by
    rw [State.releaseCut]
    split <;> simp [State.noticeRelease]
  cases pending : (s.lane L).seq.nextPending with
  | false => rw [State.attempt_of_not_pending pending]
  | true =>
    rw [State.attempt_of_openIdle pending idle, State.attemptOpenIdle]
    split
    · simp [State.setWait]
    · split
      · split
        · exact releaseCut _
        · simp [State.setWait]
      · rfl

theorem State.endDwell_waiting_length : (s.endDwell L).arbiter.queue.length = s.arbiter.queue.length := by
  have metered (n : Nat) : (((s.modSeq L fun q => { q with dwellTimer := none }).meterLevel L n).giveBack
      L).arbiter.queue.length = s.arbiter.queue.length := by
    rw [State.giveBack_eq]
    refine (State.waiting_length_of_view (State.meterLevel_view ..)).trans ?_
    rw [State.modSeq_arbiter]
  have idle (t : State) (n : Nat) : (((t.noticePierceDone L n).endReleased L).enterOpenIdle L).arbiter = t.arbiter := by
    simp [State.enterOpenIdle, State.noticePierceDone]
  unfold State.endDwell
  extract_lets released metered' recorded idle'
  have counted : idle'.arbiter.queue.length = s.arbiter.queue.length := by
    simp only [idle', recorded, idle, State.recordReleased_arbiter]
    exact metered _
  have plain : (idle'.countLane L .addSegmentsDone).arbiter.queue.length = s.arbiter.queue.length :=
    (congrArg (fun a => a.queue.length) (State.modLane_arbiter ..)).trans counted
  clear_value released
  cases released with
  | none | segment => exact plain
  | repierce =>
    change ((idle'.clearRepierce L).attempt L false).arbiter.queue.length = _
    rw [State.attempt_waiting_of_openIdle]
    · rwa [State.clearRepierce, State.modSeq_arbiter]
    · rw [State.clearRepierce, State.modSeq_laneState]
      exact State.modSeq_laneState ..

theorem State.enterDwell_waiting_length : (s.enterDwell L).arbiter.queue.length = s.arbiter.queue.length := by
  unfold State.enterDwell
  extract_lets dwelling
  have counted : dwelling.arbiter.queue.length = s.arbiter.queue.length := by
    simp only [dwelling, State.modSeq_arbiter]
    exact State.waiting_length_of_view (State.meterStart_view ..)
  split
  · exact (State.endDwell_waiting_length ..).trans counted
  · rwa [State.modSeq_arbiter]

theorem State.enterOpen_waiting_length : (s.enterOpen L).arbiter.queue.length = s.arbiter.queue.length := by
  unfold State.enterOpen
  extract_lets opened
  have counted : opened.arbiter.queue.length = s.arbiter.queue.length := by
    simp only [opened, State.modSeq_arbiter, State.countLane, State.modLane_arbiter]
  split
  · exact (State.enterDwell_waiting_length ..).trans counted
  · rwa [State.modSeq_arbiter]

theorem State.enterRamp_waiting_length : (s.enterRamp L).arbiter.queue.length = s.arbiter.queue.length := by
  unfold State.enterRamp
  extract_lets ramping
  have counted : ramping.arbiter.queue.length = s.arbiter.queue.length := by simp only [ramping, State.modSeq_arbiter]
  split
  · exact (State.enterOpen_waiting_length ..).trans counted
  · exact counted

theorem State.takeGrant_waiting_length (kind : PierceKind) (told : Bool) :
    (s.takeGrant L kind told).arbiter.queue.length = s.arbiter.queue.length := by
  unfold State.takeGrant
  split
  · split
    · rw [State.enterRamp_waiting_length]
      split <;> simp [State.noticeRelease]
    · rfl
    · rw [State.enterRamp_waiting_length]
      simp [State.noticeRepierce]
  · rfl

/-- After a grant the entries that stood behind wait on. -/
theorem State.grant_waiting_length (e : PierceEntry) (behind : List PierceEntry) (told : Bool) :
    (s.grant e behind told).arbiter.queue.length = behind.length := by
  rw [State.grant, State.takeGrant_waiting_length, State.retarget, State.setTarget_queue]
  rfl

/-! ## The arbiter's part, case by case (R96 to R102) -/

/-- The arbiter may not grant: the grant is held, the inhibit asserted or the pump lost. -/
def State.Withheld : Prop := s.arbiter.holder ≠ none ∨ s.inhibit = true ∨ s.monitor.lost = true

theorem State.not_withheld_iff : ¬ s.Withheld ↔ s.grantFree = true := by
  rw [State.grantFree_iff, State.Withheld]
  simp only [not_or, ne_eq, not_not, Bool.not_eq_true]

/-- The lane's feed holds its floor at a pierce pressure (R38, R39). -/
def State.Shares (pressure : Nat) : Prop :=
  ∃ f, (match s.laneState L, (s.lane L).seq.released, s.queueHead L with
      | .cutting, .segment e, _ => some e.fSeg
      | .openIdle, _, some e => if Segment.isCut e.seg then some e.fSeg else none
      | _, _, _ => none) = some f ∧
    (s.recipe L).feedFloor ≤ f * pressureRatio s.config.tables pressure (s.recipe L).pCut / 1000

theorem State.sharedPierce_iff (pressure : Nat) : s.sharedPierce L pressure = true ↔ s.Shares L pressure := by
  have feed : s.otherFeed L =
      match s.laneState L, (s.lane L).seq.released, s.queueHead L with
      | .cutting, .segment e, _ => some e.fSeg
      | .openIdle, _, some e => if Segment.isCut e.seg then some e.fSeg else none
      | _, _, _ => none := by
    unfold State.otherFeed State.queueHead
    cases s.laneState L with
    | cutting => cases (s.lane L).seq.released <;> rfl
    | openIdle => cases (s.lane L).queue.entries <;> rfl
    | _ => rfl
  rw [State.Shares, ← feed, State.sharedPierce]
  cases s.otherFeed L with
  | none => simp
  | some f =>
    simp only [applyFactor, Option.some.injEq, exists_eq_left']
    exact decide_eq_true_iff

/-- The peer condition (R96 condition 4, R99). -/
def State.PeerAgrees (e : PierceEntry) : Prop :=
  match s.laneState e.lane.other with
  | .cutting => s.Shares e.lane.other e.pressure
  | .openIdle => s.Shares e.lane.other e.pressure
  | .stopping => False
  | .piercing _ => False
  | _ => True

theorem State.peerHolds_iff (e : PierceEntry) : s.peerHolds e = true ↔ s.PeerAgrees e := by
  unfold State.peerHolds State.PeerAgrees
  cases s.laneState e.lane.other with
  | cutting | openIdle => exact s.sharedPierce_iff ..
  | stopping | piercing => exact iff_of_false Bool.false_ne_true id
  | _ => exact iff_of_true rfl trivial

section
variable {s}
variable {e : PierceEntry} {behind : List PierceEntry} (front : s.arbiter.queue = e :: behind)
include front

theorem State.arbitrateFor_of_front (told : Option Lane) (rounds : Nat) :
    s.arbitrateFor told (rounds + 1) =
      if s.grantFree then
        if s.peerHolds e then (s.grant e behind (told == some e.lane)).arbitrateFor told rounds
        else (s.notifyPeer e behind).retarget
      else s.retarget := by
  rw [State.arbitrateFor, front]

theorem State.arbitrateFor_of_refused (free : ¬ s.Withheld) (peer : ¬ s.PeerAgrees e) (told : Option Lane)
    (rounds : Nat) : s.arbitrateFor told (rounds + 1) = (s.notifyPeer e behind).retarget := by
  rw [State.arbitrateFor_of_front front, if_pos (s.not_withheld_iff.mp free), if_neg (mt (s.peerHolds_iff e).mp peer)]

theorem State.arbitrateFor_of_granted (free : ¬ s.Withheld) (peer : s.PeerAgrees e) (told : Option Lane) :
    s.arbitrateFor told (s.arbiter.queue.length + 1) =
      (s.grant e behind (told == some e.lane)).arbitrateFor told
        ((s.grant e behind (told == some e.lane)).arbiter.queue.length + 1) := by
  rw [State.arbitrateFor_of_front front, if_pos (s.not_withheld_iff.mp free), if_pos ((s.peerHolds_iff e).mpr peer),
    State.grant_waiting_length, front, List.length_cons]

end

theorem State.arbitrateFor_of_withheld {s : State} (withheld : s.Withheld) (told : Option Lane) (rounds : Nat) :
    s.arbitrateFor told rounds = s.retarget := by
  have held : ¬ s.grantFree = true := fun free => s.not_withheld_iff.mpr free withheld
  cases rounds with
  | zero => rfl
  | succ rounds =>
    cases queue : s.arbiter.queue with
    | nil => exact State.arbitrateFor_of_nil queue ..
    | cons e behind => rw [State.arbitrateFor_of_front queue, if_neg held]

end

/-- Settles O37: the arbiter's part, case by case. -/
theorem headEntryIsJudged : Obligations.HeadEntryIsJudged := by
  unfold Obligations.HeadEntryIsJudged
  intro s withheld otherFeed shares peer
  refine ⟨fun live => congrArg Host.Outcome.next (State.unlessHeld_live live _), State.arbitrate_of_nil,
    fun held => State.arbitrateFor_of_withheld held .., fun e behind front free => ⟨fun refused given => ?_,
      fun refused fresh => ?_, State.arbitrateFor_of_granted front free (told := none)⟩⟩
  · rw [State.arbitrate, State.arbitrateFor_of_refused front free refused, State.notifyPeer, if_pos given]
  · rw [State.arbitrate, State.arbitrateFor_of_refused front free refused, State.notifyPeer,
      if_neg (Bool.eq_false_iff.mp fresh)]

/-! ## The grant (R74, R79, R100) -/

theorem State.takeGrant_of_pierce {s : State} {L : Lane} {head : Entry} {dwell : Option Nat}
    (at_head : s.queueHead L = some head) (seg : head.seg = .pierce dwell) (kind : PierceKind) (told : Bool) :
    s.takeGrant L kind told = ((s.releaseHead L head).noticeUnless told L head).enterRamp L := by
  rw [State.takeGrant, at_head]
  simp only [seg]
  rfl

theorem State.takeGrant_of_cut {s : State} {L : Lane} {head : Entry} (at_head : s.queueHead L = some head)
    (cut : Segment.isCut head.seg = true) (kind : PierceKind) (told : Bool) :
    s.takeGrant L kind told =
      ((s.modSeq L fun q => { q with released := .repierce head.segId kind, elapsed := some 0 }).noticeRepierce L
        head.segId).enterRamp L := by
  rw [State.takeGrant, at_head]
  obtain ⟨c, seg⟩ | ⟨c, radius, seg⟩ := Segment.cases_of_isCut cut <;> simp only [seg]

/-- The state in which the lane of a granted entry takes the grant. -/
def State.granting (s : State) (e : PierceEntry) (behind : List PierceEntry) : State :=
  (s.modArbiter fun a =>
    { a with queue := behind, holder := some { lane := e.lane, kind := e.kind, pressure := e.pressure } }).retarget

theorem State.granting_config (s : State) (e : PierceEntry) (behind : List PierceEntry) :
    (s.granting e behind).config = s.config :=
  State.config_of_base ((State.setTarget_base ..).trans (State.modArbiter_base ..))

theorem State.granting_lane (s : State) (e : PierceEntry) (behind : List PierceEntry) (L : Lane) :
    (s.granting e behind).lane L = s.lane L := by
  rw [State.granting, State.retarget, State.setTarget_lane]
  cases L <;> rfl

theorem State.granting_queueHead (s : State) (e : PierceEntry) (behind : List PierceEntry) (L : Lane) :
    (s.granting e behind).queueHead L = s.queueHead L := by
  simp only [State.queueHead, State.granting_lane]

theorem State.granting_queueRegion (s : State) (e : PierceEntry) (behind : List PierceEntry) (L : Lane) :
    (s.granting e behind).queueRegion L = s.queueRegion L := by
  cases L <;> simp only [State.queueRegion, State.granting_config]

theorem State.granting_tellLow (s : State) (e : PierceEntry) (behind : List PierceEntry) (L : Lane) :
    (s.granting e behind).tellLow L = s.tellLow L := by
  have watermark : (s.granting e behind).watermark L = s.watermark L := by
    cases L <;> simp only [State.watermark, State.granting_config]
  have fill : (s.granting e behind).fill L = s.fill L := by simp only [State.fill, State.granting_lane]
  funext t
  simp only [State.tellLow, watermark, fill]

/-- Settles O38: the lane takes the grant by its queue head. -/
theorem grantReleasesThePierce : Obligations.GrantReleasesThePierce := by
  unfold Obligations.GrantReleasesThePierce
  intro s e behind told head at_head L region held low
  have grant_eq : s.grant e behind told = held.takeGrant L e.kind told := rfl
  have held_head : held.queueHead L = some head := (s.granting_queueHead e behind L).trans at_head
  have held_region : held.queueRegion L = region := s.granting_queueRegion e behind L
  have held_low : held.tellLow L = s.tellLow L := s.granting_tellLow e behind L
  have cut_case (cut : Segment.isCut head.seg = true) :
      s.grant e behind told =
        ((held.modSeq L fun q => { q with released := .repierce head.segId e.kind, elapsed := some 0 }).send L.port.link
          kindRelease (beBytes 2 head.segId ++ [0x04#8, 0x00#8, 0x00#8, 0x00#8, 0x00#8])).enterRamp L := by
    rw [grant_eq, State.takeGrant_of_cut held_head cut, State.noticeRepierce, List.append_assoc, List.append_assoc]
    rfl
  rcases head with ⟨segId, seg, fSeg, fJunc, junction⟩
  cases seg with
  | traverse => trivial
  | pierce =>
    rw [grant_eq, State.takeGrant_of_pierce held_head rfl, State.releaseHead_eq, held_low, held_region]
    rfl
  | line | arc => exact cut_case rfl

end Sys2Proof.Machine

/-! PROOFS. NEXT (O26). -/

namespace Sys2Proof.Machine

theorem exec_next_of_hands {L : Lane} {s : State} (h : s.hands L.port (.next L) = true) :
    exec (.next L) s = .next ((s.handed L.port).takeNext L) :=
  congrArg Host.Outcome.next (State.handOn_of_hands h _)

/-- The reply body of a taken NEXT. -/
def State.nextReply (s : State) (L : Lane) : List Byte := nextBody ((s.handed L.port).nextAnswer L)

/-- A NEXT refused or taken in a state that has one of the four checks of R63 behind it. -/
theorem State.takeNext_handed {s : State} {L : Lane} (mirrored : s.laneState L ≠ .mirrored)
    (closed : s.laneState L ≠ .closed) (fault : s.laneState L ≠ .fault) :
    (s.handed L.port).takeNext L =
      if (s.lane L).seq.nextPending then s.answeredAt L.port kindNext .alreadyPending []
      else if s.laneState L = .ready ∨ s.laneState L = .openIdle ∨ s.laneState L = .stopping then
        (s.answeredAt L.port kindNext .ok (s.nextReply L)).runNext L
      else s.answeredAt L.port kindNext .busy [] := by
  rw [State.takeNext.eq_def, State.handed_laneState]
  cases state : s.laneState L with
  | mirrored => exact absurd state mirrored
  | closed => exact absurd state closed
  | fault => exact absurd state fault
  | _ => simp only [State.handed_lane, State.refuse_handed, State.reply_handed, State.nextReply]

/-- The state of a taken NEXT, replied to, in which its attempt runs. -/
def State.nextTaken (s : State) (L : Lane) (body : List Byte) : State :=
  (s.answeredAt L.port kindNext .ok body).modSeq L fun q => { q with nextPending := true }

/-- The arbiter's part of a NEXT, and the event's end. -/
def State.nextClosed (L : Lane) (t : State) : State :=
  (t.arbitrateFor (some L) (t.arbiter.queue.length + 1)).closeTick

theorem State.runNext_of_attempt {s : State} {L : Lane} (moving : s.laneState L ≠ .stopping) (body : List Byte) :
    (s.answeredAt L.port kindNext .ok body).runNext L = State.nextClosed L ((s.nextTaken L body).attempt L true) := by
  rw [State.runNext, State.answeredAt_laneState, if_neg moving]
  rfl

/-- The answer of a NEXT, read from the lane as the event of any reply leaves it. -/
theorem State.nextAnswer_handed (s : State) (L : Lane) (body : List Byte) :
    (s.handed L.port).nextAnswer L =
      let after := ((s.answeredAt L.port kindNext .ok body).runNext L).lane L
      match s.queueHead L with
      | some e =>
        if s.laneState L = .ready ∧ Segment.isCut e.seg ∧ (s.lane L).seq.repierceFlag then .waiting .pierceQueue
        else if after.seq.nextPending then .waiting after.seq.wait
        else .released e
      | none => .waiting after.seq.wait := by
  have alike : (s.handed L.port).Alike (s.answeredAt L.port kindNext .ok body) :=
    (State.Alike.of_modPort ..).trans (State.Alike.of_modPort ..).symm
  rw [State.nextAnswer.eq_def, (alike.runNext L).lane L, State.handed_queueHead]
  cases s.queueHead L <;> simp only [State.handed_laneState, State.handed_lane]

/-- A repierce is asked for by this NEXT. -/
def State.Repierces (s : State) (L : Lane) : Prop :=
  s.laneState L = .ready ∧ (s.lane L).seq.repierceFlag = true ∧
    ∃ e, s.queueHead L = some e ∧ Segment.isCut e.seg = true

section
variable {s : State} {L : Lane}

theorem State.nextReply_of_repierces (h : s.Repierces L) : s.nextReply L = [0x01#8, 0x03#8] := by
  obtain ⟨ready, flag, e, head, cut⟩ := h
  rw [State.nextReply, s.nextAnswer_handed L [], head]
  dsimp only
  rw [if_pos ⟨ready, cut, flag⟩]
  rfl

theorem State.nextReply_of_waiting (none? : ¬ s.Repierces L) (body : List Byte)
    (waits : (((s.answeredAt L.port kindNext .ok body).runNext L).lane L).seq.nextPending = true) :
    s.nextReply L =
      [0x01#8,
        byte (waitReasonCode (((s.answeredAt L.port kindNext .ok body).runNext L).lane L).seq.wait)] := by
  rw [State.nextReply, s.nextAnswer_handed L body]
  cases head : s.queueHead L with
  | none => rfl
  | some e =>
    dsimp only
    rw [if_neg fun ⟨ready, cut, flag⟩ => none? ⟨ready, flag, e, head, cut⟩, if_pos waits]
    rfl

theorem State.nextReply_of_released (none? : ¬ s.Repierces L) (body : List Byte) {e : Entry}
    (head : s.queueHead L = some e)
    (told : (((s.answeredAt L.port kindNext .ok body).runNext L).lane L).seq.nextPending = false) :
    s.nextReply L = 0x00#8 :: releaseBody e := by
  rw [State.nextReply, s.nextAnswer_handed L body, head]
  dsimp only
  rw [if_neg fun ⟨ready, cut, flag⟩ => none? ⟨ready, flag, e, head, cut⟩, if_neg (Bool.eq_false_iff.mp told)]
  rfl

/-! ## The attempt of a NEXT -/

theorem State.nextTaken_seq (s : State) (L : Lane) (body : List Byte) :
    ((s.nextTaken L body).lane L).seq = { (s.lane L).seq with nextPending := true } := by
  rw [State.nextTaken, State.modSeq_lane_seq, State.answeredAt_lane]

theorem State.nextTaken_laneState (s : State) (L : Lane) (body : List Byte) :
    (s.nextTaken L body).laneState L = s.laneState L := by
  rw [State.laneState, State.nextTaken_seq]
  rfl

theorem State.nextTaken_sameHead (s : State) (L : Lane) (body : List Byte) : s.SameHead (s.nextTaken L body) L where
  config := (State.modSeq_config ..).trans (State.answeredAt_config ..)
  queue := by rw [State.nextTaken, State.modSeq_lane_queue, State.answeredAt_lane]
  recipe := by rw [State.nextTaken_seq]
  waiting := by rw [State.nextTaken, State.modSeq_arbiter, State.answeredAt_arbiter]

theorem State.SameHead.withAsked {t : State} (h : s.SameHead t L) : t.withAsked L = s.withAsked L := by
  funext kind u
  simp only [State.withAsked, h.waiting, h.recipe_eq, h.config]

/-- QUEUE_LOW and the release of the head commute: the event may be raised first. -/
theorem State.SameHead.released {t : State} (h : s.SameHead t L) (f : LaneUnit → LaneUnit) (e : Entry) :
    t.tellLow L ((t.modLane L f).modLane L (.withHeadReleased (t.queueRegion L) e)) =
      (s.tellLow L (t.modLane L f)).modLane L (.withHeadReleased (s.queueRegion L) e) := by
  rw [h.tellLow, h.queueRegion, State.tellLow_modLane]

end

section
variable {s : State} {L : Lane} {e : Entry}

theorem State.nextTaken_attempt_of_ready (ready : s.laneState L = .ready) (body : List Byte) :
    (s.nextTaken L body).attempt L true = (s.nextTaken L body).attemptReady L true :=
  State.attempt_of_ready (congrArg Sequencer.nextPending (s.nextTaken_seq L body))
    ((s.nextTaken_laneState L body).trans ready) true

theorem State.nextTaken_attempt_of_openIdle (idle : s.laneState L = .openIdle) (body : List Byte) :
    (s.nextTaken L body).attempt L true = (s.nextTaken L body).attemptOpenIdle L true :=
  State.attempt_of_openIdle (congrArg Sequencer.nextPending (s.nextTaken_seq L body))
    ((s.nextTaken_laneState L body).trans idle) true

theorem State.nextTaken_attempt_of_empty (moves : s.laneState L = .ready ∨ s.laneState L = .openIdle)
    (head : s.queueHead L = none) (body : List Byte) :
    (s.nextTaken L body).attempt L true = (s.nextTaken L body).setWait L .empty := by
  have taken_head := (s.nextTaken_sameHead L body).queueHead.trans head
  obtain ready | idle := moves
  · rw [State.nextTaken_attempt_of_ready ready, State.attemptReady_of_none taken_head]
  · rw [State.nextTaken_attempt_of_openIdle idle, State.attemptOpenIdle_of_none taken_head]

theorem State.nextTaken_attempt_of_traverse {length : Nat} (ready : s.laneState L = .ready)
    (head : s.queueHead L = some e) (seg : e.seg = .traverse length) (body : List Byte) :
    (s.nextTaken L body).attempt L true =
      ((s.tellLow L ((s.nextTaken L body).modLane L LaneUnit.unflagged)).modLane L
        (.withHeadReleased (s.queueRegion L) e)).modSeq L fun q => { q with state := .traversing } := by
  have same := s.nextTaken_sameHead L body
  rw [State.nextTaken_attempt_of_ready ready, State.attemptReady_of_traverse (same.queueHead.trans head) seg,
    State.releaseTraverse_eq, ← same.released, State.modLane_modLane]
  rfl

theorem State.nextTaken_attempt_of_pierce {dwell : Option Nat} (ready : s.laneState L = .ready)
    (head : s.queueHead L = some e) (seg : e.seg = .pierce dwell) (body : List Byte) :
    (s.nextTaken L body).attempt L true =
      s.withAsked L .full ((s.nextTaken L body).modLane L LaneUnit.unflagged) := by
  have same := s.nextTaken_sameHead L body
  rw [State.nextTaken_attempt_of_ready ready, State.attemptReady_of_pierce (same.queueHead.trans head) seg,
    same.withAsked]

theorem State.nextTaken_attempt_of_cut {kind : PierceKind} (ready : s.laneState L = .ready)
    (head : s.queueHead L = some e) (cut : Segment.isCut e.seg = true) (flag : (s.lane L).seq.repierceFlag = true)
    (owed : (s.lane L).seq.repierceKind = some kind) (body : List Byte) :
    (s.nextTaken L body).attempt L true = s.withAsked L kind (s.nextTaken L body) := by
  have same := s.nextTaken_sameHead L body
  have seq := s.nextTaken_seq L body
  rw [State.nextTaken_attempt_of_ready ready, State.attemptReady_of_cut (same.queueHead.trans head) cut
    ((congrArg Sequencer.repierceFlag seq).trans flag) ((congrArg Sequencer.repierceKind seq).trans owed),
    same.withAsked]

theorem State.nextTaken_attempt_of_clear (ready : s.laneState L = .ready)
    (head : s.queueHead L = some e) (cut : Segment.isCut e.seg = true)
    (clear : (s.lane L).seq.repierceFlag = false ∨ (s.lane L).seq.repierceKind = none) (body : List Byte) :
    (s.nextTaken L body).attempt L true = s.nextTaken L body := by
  have same := s.nextTaken_sameHead L body
  have seq := s.nextTaken_seq L body
  rw [State.nextTaken_attempt_of_ready ready, State.attemptReady_of_clear (same.queueHead.trans head) cut]
  exact clear.imp (congrArg Sequencer.repierceFlag seq).trans (congrArg Sequencer.repierceKind seq).trans

theorem State.nextTaken_attempt_of_other (idle : s.laneState L = .openIdle) (head : s.queueHead L = some e)
    (other : Segment.isCut e.seg = false) (body : List Byte) :
    (s.nextTaken L body).attempt L true = s.nextTaken L body := by
  rw [State.nextTaken_attempt_of_openIdle idle,
    State.attemptOpenIdle_of_other ((s.nextTaken_sameHead L body).queueHead.trans head) other]

theorem State.nextTaken_attempt_of_provisional (idle : s.laneState L = .openIdle) (head : s.queueHead L = some e)
    (cut : Segment.isCut e.seg = true) (open? : e.junction = .provisional) (body : List Byte) :
    (s.nextTaken L body).attempt L true = (s.nextTaken L body).setWait L .lookahead := by
  rw [State.nextTaken_attempt_of_openIdle idle,
    State.attemptOpenIdle_of_provisional ((s.nextTaken_sameHead L body).queueHead.trans head) cut open?]

theorem State.nextTaken_attempt_of_final (idle : s.laneState L = .openIdle) (head : s.queueHead L = some e)
    (cut : Segment.isCut e.seg = true) (final : e.junction = .final) (body : List Byte) :
    (s.nextTaken L body).attempt L true =
      ((s.tellLow L (s.nextTaken L body)).modLane L (.withHeadReleased (s.queueRegion L) e)).modLane L fun u =>
        { u with
          seq := { u.seq with state := .cutting, stallTimer := none, stepCount := 0 }
          gov := { u.gov with lastSent := 1000, segmentMin := some 1000 } } := by
  have same := s.nextTaken_sameHead L body
  rw [State.nextTaken_attempt_of_openIdle idle, State.attemptOpenIdle_of_final (same.queueHead.trans head) cut final,
    State.releaseCut_eq, same.tellLow, same.queueRegion, ← State.tellLow_modLane]
  rfl

end

/-- Settles O26: the checks in their order; the attempt of a taken NEXT follows the queue head as in O27, and its reply tells
what the event leaves. -/
theorem nextAnswersOrWaits : Obligations.NextAnswersOrWaits := by
  unfold Obligations.NextAnswersOrWaits
  refine ⟨?next, ?part⟩
  case part =>
    intro L s part withheld otherFeed shares peer
    refine ⟨fun idle => ?_, fun e behind front free => ⟨fun refused => ?_, fun agrees => ?_⟩⟩
    · exact idle.elim (fun empty => State.arbitrateFor_of_nil empty ..) fun held =>
        State.arbitrateFor_of_withheld held ..
    · exact (State.arbitrateFor_of_refused front free refused ..).trans
        (State.arbitrateFor_of_refused front free refused ..).symm
    · have told : (some L == some e.lane) = decide (e.lane = L) := by cases L <;> cases e.lane <;> rfl
      rw [← told]
      exact State.arbitrateFor_of_granted front free agrees (some L)
  case next =>
    intro L s h q region refused taken waits released unflagged asked close repierces attempted
    have judged (mirrored : s.laneState L ≠ .mirrored) (closed : s.laneState L ≠ .closed)
        (fault : s.laneState L ≠ .fault) :=
      (exec_next_of_hands h).trans (congrArg Host.Outcome.next (State.takeNext_handed mirrored closed fault))
    have attempted_of {attempt : State → State} (moves : s.laneState L = .ready ∨ s.laneState L = .openIdle)
        (attempts : ∀ body, (taken body).attempt L true = attempt (taken body)) : attempted attempt := by
      have moving : s.laneState L ≠ .stopping := by rintro stop; simp [stop] at moves
      have ran (body : List Byte) :
          (s.answeredAt L.port kindNext .ok body).runNext L = close (attempt (taken body)) := by
        rw [State.runNext_of_attempt moving, ← attempts]
        rfl
      have judged := judged (by rintro state; simp [state] at moves) (by rintro state; simp [state] at moves)
        (by rintro state; simp [state] at moves)
      refine ⟨fun pending => judged.trans (by rw [if_pos pending]), fun fresh => ?_⟩
      rw [if_neg (Bool.eq_false_iff.mp fresh), if_pos (by tauto), ran] at judged
      refine ⟨_, judged, State.nextReply_of_repierces, fun other pending => ?_, fun other answered e head => ?_⟩
      · rw [← ran] at pending ⊢
        exact State.nextReply_of_waiting other _ pending
      · rw [← ran] at answered
        rw [State.nextReply_of_released other _ head answered, releaseBody]
        rfl
    clear_value attempted
    have refused_of {result : Result} (refuses : (s.handed L.port).takeNext L =
        (s.handed L.port).refuse L.port kindNext result) : refused result :=
      (exec_next_of_hands h).trans (congrArg Host.Outcome.next (refuses.trans (State.refuse_handed ..)))
    have same (body : List Byte) : s.SameHead (taken body) L := s.nextTaken_sameHead L body
    have pending (body : List Byte) : ((taken body).lane L).seq.nextPending = true :=
      congrArg Sequencer.nextPending (s.nextTaken_seq L body)
    cases state : s.laneState L with
    | mirrored | closed | fault =>
      exact refused_of (by rw [State.takeNext.eq_def, State.handed_laneState, state])
    | stopping =>
      have judged := judged (by simp [state]) (by simp [state]) (by simp [state])
      refine ⟨fun waiting => judged.trans (by rw [if_pos waiting]), fun fresh => judged.trans ?_⟩
      have ran (body : List Byte) :
          (s.answeredAt L.port kindNext .ok body).runNext L = waits .stopping (taken body) := by
        rw [State.runNext, State.answeredAt_laneState, if_pos state]
        rfl
      have left (body : List Byte) : ((waits .stopping (taken body)).lane L).seq =
          { ((taken body).lane L).seq with wait := .stopping } := State.modSeq_lane_seq ..
      have reply : s.nextReply L = [0x01#8, 0x04#8] := by
        rw [State.nextReply_of_waiting (fun repierces => by simp [repierces.1] at state) [], ran, left]
        · rfl
        · rw [ran, left]
          exact pending []
      rw [if_neg (Bool.eq_false_iff.mp fresh), if_pos (by simp [state]), ran, reply]
    | cutting | traversing | piercing =>
      have judged := judged (by simp [state]) (by simp [state]) (by simp [state])
      rw [if_neg (c := s.laneState L = .ready ∨ _) (by simp [state])] at judged
      change if _ then _ else _
      split
      case isTrue waiting => exact judged.trans (by rw [if_pos waiting])
      case isFalse fresh => exact judged.trans (by rw [if_neg fresh])
    | ready =>
      cases at_head : s.queueHead L with
      | none => exact attempted_of (.inl state) (State.nextTaken_attempt_of_empty (.inl state) at_head)
      | some e =>
        rcases e with ⟨segId, seg, fSeg, fJunc, junction⟩
        have cut_case (cut : Segment.isCut seg = true) :
            (∀ kind, q.repierceFlag = true → q.repierceKind = some kind → attempted (asked kind)) ∧
              (q.repierceFlag = false ∨ q.repierceKind = none → attempted fun t => t) :=
          ⟨fun kind flag owed => attempted_of (.inl state) (State.nextTaken_attempt_of_cut state at_head cut flag owed),
            fun clear => attempted_of (.inl state) (State.nextTaken_attempt_of_clear state at_head cut clear)⟩
        cases seg with
        | traverse => exact attempted_of (.inl state) (State.nextTaken_attempt_of_traverse state at_head rfl)
        | pierce => exact attempted_of (.inl state) (State.nextTaken_attempt_of_pierce state at_head rfl)
        | line | arc => exact cut_case rfl
    | openIdle =>
      cases at_head : s.queueHead L with
      | none => exact attempted_of (.inr state) (State.nextTaken_attempt_of_empty (.inr state) at_head)
      | some e =>
        refine ⟨fun other => attempted_of (.inr state) (State.nextTaken_attempt_of_other state at_head other),
          fun cut => ?_⟩
        rcases e with ⟨segId, seg, fSeg, fJunc, junction⟩
        cases junction with
        | provisional => exact attempted_of (.inr state) (State.nextTaken_attempt_of_provisional state at_head cut rfl)
        | final => exact attempted_of (.inr state) (State.nextTaken_attempt_of_final state at_head cut rfl)

end Sys2Proof.Machine

/-! PROOFS. The metering commands (O45) and the slots (O46), each as one change of the lanes it reaches. -/

namespace Sys2Proof.Machine

/-! ## One metering unit -/

/-- A lane whose metering unit begins the slot it stands at (R148, R151). -/
def LaneUnit.slotBegun (slotTime : Nat) (u : LaneUnit) : LaneUnit :=
  let g := u.gen.applyPending
  { u with
    gen := { g with slotTimer := some slotTime }
    seq := { u.seq with
      stepCount :=
        if emitsStep g.slot g.level = true ∧ u.seq.released ≠ .none then min 65535 (u.seq.stepCount + 1)
        else u.seq.stepCount }
    counters := { u.counters with
      abrasiveSteps :=
        if emitsStep g.slot g.level then min 4294967295 (u.counters.abrasiveSteps + 1)
        else u.counters.abrasiveSteps } }

/-- A lane whose metering unit takes a START at level `n` (R147). -/
def LaneUnit.meterStarted (t : Timing) (n : Nat) (u : LaneUnit) : LaneUnit :=
  if u.gen.running then { u with gen := u.gen.setLevel n }
  else
    LaneUnit.slotBegun t.slotTime
      { u with
        gen := { running := true, level := n, pendingLevel := none, slot := 0, slotTimer := none }
        mon := .start t }

/-- A lane whose metering unit takes a STOP (R147, R150). -/
def LaneUnit.meterStopped (u : LaneUnit) : LaneUnit :=
  if u.gen.running then { u with gen := .stopped, mon := u.mon.stop } else u

/-- A lane whose metering unit takes a LEVEL (R147). -/
def LaneUnit.meterLevelled (n : Nat) (u : LaneUnit) : LaneUnit := { u with gen := u.gen.setLevel n }

section
variable (s : State) (L : Lane)

theorem State.beginSlot_eq : s.beginSlot L = s.modLane L (.slotBegun s.config.timing.slotTime) := by
  have released (f : Generator → Generator) : ((s.modGen L f).lane L).seq.released = (s.lane L).seq.released := by
    cases L <;> rfl
  unfold State.beginSlot State.emitStep
  extract_lets g started counted
  rw [released]
  by_cases step : emitsStep g.slot g.level = true
  · rw [if_pos step]
    by_cases idle : (s.lane L).seq.released = .none
    · rw [if_pos idle]
      simp only [counted, started, State.modGen, State.countLane, State.modLane_modLane]
      refine State.modLane_congr ?_
      rw [LaneUnit.slotBegun, if_neg fun both => both.2 idle, if_pos (show emitsStep _ _ = true from step)]
      rfl
    · rw [if_neg idle]
      simp only [counted, started, State.modGen, State.countLane, State.modSeq, State.modLane_modLane]
      refine State.modLane_congr ?_
      rw [LaneUnit.slotBegun, if_pos ⟨show emitsStep _ _ = true from step, idle⟩,
        if_pos (show emitsStep _ _ = true from step)]
      rfl
  · rw [if_neg step]
    refine State.modLane_congr ?_
    rw [LaneUnit.slotBegun, if_neg fun both => step both.1, if_neg (show ¬ emitsStep _ _ = true from step)]

theorem State.startUnit_eq (n : Nat) : s.startUnit n L = s.modLane L (.meterStarted s.config.timing n) := by
  unfold State.startUnit
  split
  case isTrue running =>
    refine State.modLane_congr ?_
    rw [LaneUnit.meterStarted, if_pos running]
  case isFalse idle =>
    rw [State.beginSlot_eq, State.modMon_config, State.modGen_config, State.modMon, State.modGen,
      State.modLane_modLane, State.modLane_modLane]
    refine State.modLane_congr ?_
    rw [LaneUnit.meterStarted, if_neg idle]

theorem State.stopUnit_eq : s.stopUnit L = s.modLane L LaneUnit.meterStopped := by
  unfold State.stopUnit
  split
  case isTrue running =>
    rw [State.modMon, State.modGen, State.modLane_modLane]
    refine State.modLane_congr ?_
    rw [LaneUnit.meterStopped, if_pos running]
  case isFalse idle =>
    have same : s.modLane L LaneUnit.meterStopped = s.modLane L id := by
      refine State.modLane_congr ?_
      rw [LaneUnit.meterStopped, if_neg idle, id]
    rw [same]
    cases L <;> rfl

/-! ## The units that a lane's command reaches (R162) -/

/-- A change of a lane, made on lane B as well when lane B follows lane A. -/
def State.modMetered (f : LaneUnit → LaneUnit) : State :=
  if L = .A ∧ s.mirror = true then (s.modLane .A f).modLane .B f else s.modLane L f

theorem State.onMetering_eq (f : State → Lane → State) :
    s.onMetering L f = if L = .A ∧ s.mirror = true then f (f s .A) .B else f s L := by
  cases L <;> cases mirror : s.mirror <;> simp [State.onMetering, mirror]

theorem State.meterStart_eq (n : Nat) : s.meterStart L n = s.modMetered L (.meterStarted s.config.timing n) := by
  rw [State.meterStart, State.onMetering_eq, State.modMetered]
  simp only [State.startUnit_eq, State.modLane_config]

theorem State.meterLevel_eq (n : Nat) : s.meterLevel L n = s.modMetered L (.meterLevelled n) :=
  State.onMetering_eq ..

theorem State.meterStop_eq : s.meterStop L = s.modMetered L LaneUnit.meterStopped := by
  rw [State.meterStop, State.onMetering_eq, State.modMetered]
  simp only [State.stopUnit_eq]

theorem State.modLane_part {α : Type} {f : LaneUnit → LaneUnit} (part : LaneUnit → α)
    (keeps : ∀ u, part (f u) = part u) (M : Lane) : part ((s.modLane L f).lane M) = part (s.lane M) := by
  rw [State.modLane_lane_eq]
  split
  case isTrue same => rw [keeps, same]
  case isFalse => rfl

/-- What the change of a metering unit leaves of a lane, it leaves of every lane. -/
theorem State.modMetered_part {α : Type} {f : LaneUnit → LaneUnit} (part : LaneUnit → α)
    (keeps : ∀ u, part (f u) = part u) (M : Lane) : part ((s.modMetered L f).lane M) = part (s.lane M) := by
  unfold State.modMetered
  split
  · rw [State.modLane_part _ _ part keeps, State.modLane_part _ _ part keeps]
  · rw [State.modLane_part _ _ part keeps]

theorem LaneUnit.meterStopped_seq (u : LaneUnit) : u.meterStopped.seq = u.seq := by
  unfold LaneUnit.meterStopped
  split <;> rfl

theorem LaneUnit.meterStarted_recipe (t : Timing) (n : Nat) (u : LaneUnit) :
    (u.meterStarted t n).seq.recipe = u.seq.recipe := by
  unfold LaneUnit.meterStarted
  split <;> rfl

theorem State.meterStop_seq (M : Lane) : ((s.meterStop L).lane M).seq = (s.lane M).seq := by
  rw [State.meterStop_eq]
  exact State.modMetered_part _ _ LaneUnit.seq LaneUnit.meterStopped_seq M

theorem State.meterStart_seq_recipe (n : Nat) (M : Lane) :
    ((s.meterStart L n).lane M).seq.recipe = (s.lane M).seq.recipe := by
  rw [State.meterStart_eq]
  exact State.modMetered_part _ _ (fun u => u.seq.recipe) (LaneUnit.meterStarted_recipe _ n) M

end

/-- Settles O45: each command is one change of the units it reaches. -/
theorem meteringTakesItsCommands : Obligations.MeteringTakesItsCommands := by
  unfold Obligations.MeteringTakesItsCommands
  intro s L n t start level stop both
  have both_of (f : State → Lane → State) (g : LaneUnit → LaneUnit)
      (each : ∀ s' L, s'.config = s.config → f s' L = s'.modLane L g) : both f = s.modMetered L g := by
    simp only [both, State.modMetered]
    rw [each s L rfl, each s .A rfl, each _ .B (State.modLane_config ..)]
  refine ⟨?start, ?level, ?stop⟩
  case start =>
    rw [State.meterStart_eq]
    refine (both_of start _ fun s' L config => ?_).symm
    have timing : s'.config.timing = t := congrArg ConfigStore.timing config
    rw [show s.config.timing = s'.config.timing from timing.symm, ← State.startUnit_eq, State.startUnit]
    simp only [start]
    split
    case isTrue running =>
      refine State.modLane_congr ?_
      simp only [Generator.setLevel, running, Bool.not_true, Bool.false_eq_true, if_false]
      split <;> rfl
    case isFalse =>
      refine congrArg (fun u => State.beginSlot u L) ?_
      rw [State.modMon, State.modGen, State.modLane_modLane, timing]
      rfl
  case level =>
    rw [State.meterLevel_eq]
    refine (both_of level _ fun s' L _ => State.modLane_congr ?_).symm
    cases running : (s'.lane L).gen.running with
    | false => simp only [LaneUnit.meterLevelled, Generator.setLevel, running]; rfl
    | true =>
      simp only [LaneUnit.meterLevelled, Generator.setLevel, running, Bool.not_true, Bool.false_eq_true, if_false, if_true]
      split <;> rfl
  case stop =>
    rw [State.meterStop_eq]
    exact (both_of stop _ fun s' L _ => rfl).symm

/-! ## Slots (R148, R151) -/

/-- A lane whose metering unit goes to the next slot and begins it. -/
def LaneUnit.slotAdvanced (slotTime : Nat) (u : LaneUnit) : LaneUnit :=
  LaneUnit.slotBegun slotTime { u with gen := { u.gen with slot := (u.gen.slot + 1) % 16 } }

theorem State.advanceSlot_eq (s : State) (L : Lane) :
    s.advanceSlot L = s.modLane L (.slotAdvanced s.config.timing.slotTime) := by
  rw [State.advanceSlot, State.beginSlot_eq, State.modGen_config, State.modGen, State.modLane_modLane]
  rfl

/-- A pending level takes effect at slot 0 and nowhere else. -/
theorem Generator.applyPending_eq (g : Generator) :
    g.applyPending =
      { g with
        level := if g.slot = 0 ∧ g.pendingLevel ≠ none then g.pendingLevel.getD 0 else g.level
        pendingLevel := if g.slot = 0 ∧ g.pendingLevel ≠ none then none else g.pendingLevel } := by
  rcases g with ⟨running, level, _ | n, slot, slotTimer⟩
  · simp [Generator.applyPending]
  · by_cases first : slot = 0 <;> simp [Generator.applyPending, first]

/-- Settles O46: both units advance with lane A's timer in mirror mode; the sixteen slots of a level by evaluation. -/
theorem slotsEmitThePattern : Obligations.SlotsEmitThePattern := by
  unfold Obligations.SlotsEmitThePattern
  refine ⟨?slots, fun n few => ?cycle⟩
  case cycle => interval_cases n <;> rfl
  case slots =>
    intro L s live lead next
    have taken : exec (.slotTimerExpiry L) s = .next (s.slotExpiry L) :=
      congrArg Host.Outcome.next (State.unlessHeld_live live _)
    have next_eq : LaneUnit.slotAdvanced s.config.timing.slotTime = next := by
      funext u
      simp only [LaneUnit.slotAdvanced, LaneUnit.slotBegun, Generator.applyPending_eq, emitsStep, decide_eq_true_eq,
        next]
    refine ⟨fun due => ?due, fun early => ?early⟩
    case early =>
      rw [taken, State.slotExpiry]
      exact congrArg _ (if_neg (mt (Timer.due_iff _).mp early))
    case due =>
      have fired : s.slotExpiry L = s.onMetering lead State.advanceSlot := if_pos ((Timer.due_iff _).mpr due)
      rw [taken, fired, State.onMetering_eq]
      simp only [State.advanceSlot_eq, State.modLane_config, next_eq, lead]
      cases s.mirror <;> simp

end Sys2Proof.Machine

/-! PROOFS. Completion records (O28), RESUME (O30), faults (O33) and the phases of a pierce (O35). -/

namespace Sys2Proof.Machine

/-! ## Completion records (R53 to R55) -/

/-- Settles O28: `State.writeRecord` and `State.releasedRecord`, case by case. -/
theorem recordsAreWrittenAndStored : Obligations.RecordsAreWrittenAndStored := by
  unfold Obligations.RecordsAreWrittenAndStored
  refine ⟨?written, fun _ _ _ => rfl, ?record⟩
  case written =>
    intro s L r fifo size holds lost
    refine ⟨fun empty => ?_, fun held room => ?_, fun held full keep => ?_, fun held full overwrite => ?_⟩
    · rw [State.writeRecord]
      exact if_pos empty
    all_goals
      rw [State.writeRecord]
      refine (if_neg held).trans ?_
    · refine (if_pos room).trans (State.modLane_congr ?_)
      rfl
    · refine (if_neg (Nat.not_lt.mpr full)).trans ?_
      rw [keep]
      rfl
    · refine (if_neg (Nat.not_lt.mpr full)).trans ?_
      rw [overwrite]
      have stored : (s.modLane L fun u => { u with fifo := u.fifo.tail ++ [r] }) = holds (fifo.tail ++ [r]) :=
        State.modLane_congr rfl
      rw [← stored]
      rfl
  case record =>
    intro s L outcome q
    have released : (s.lane L).seq.released = q.released := rfl
    cases is : q.released with
    | none =>
      rw [State.releasedRecord, released, is]
    | repierce segId kind =>
      intro n since
      rw [State.releasedRecord, released, is]
      simp only [show (s.lane L).seq.elapsed = some n from since, Option.getD_some]
      rfl
    | segment e =>
      intro n since
      have record : s.releasedRecord L outcome =
          some
            { segId := e.segId
              kind := segmentRecordKind e.seg
              outcome := outcome
              timestamp := s.timestamp
              elapsed := n
              minOverride := if Segment.isCut e.seg then some ((s.lane L).gov.segmentMin.getD 1000) else none
              steps := match e.seg with
                | .traverse _ => none
                | _ => some q.stepCount
              discarded := none } := by
        rw [State.releasedRecord, released, is]
        simp only [show (s.lane L).seq.elapsed = some n from since, Option.getD_some]
        rfl
      rcases e with ⟨segId, seg, fSeg, fJunc, junction⟩
      cases seg with
      | traverse | pierce => exact record
      | line | arc =>
        intro lowest least
        rw [record, least]
        rfl

/-! ## RESUME (R83, R84) -/

theorem exec_resume_of_hands {L : Lane} {s : State} (h : s.hands L.port (.resume L) = true) :
    exec (.resume L) s = .next ((s.handed L.port).takeResume L) :=
  congrArg Host.Outcome.next (State.handOn_of_hands h _)

theorem State.causePresent_iff (s : State) (L : Lane) :
    s.causePresent L = true ↔
      (s.lane L).seq.faultCause = some .pumpLoss ∧ s.monitor.lost = true ∨
        (s.lane L).seq.faultCause = some .inhibit ∧ s.inhibit = true := by
  unfold State.causePresent
  rcases (s.lane L).seq.faultCause with _ | _ | _ | _ | _ | _ | _ <;> simp

@[simp] theorem State.handed_causePresent (s : State) (p : Port) (L : Lane) :
    (s.handed p).causePresent L = s.causePresent L := by
  simp only [State.causePresent, State.handed_lane, State.handed_monitor, State.handed_inhibit]

/-- RESUME, handed on: the checks of R83 in their order. -/
theorem State.takeResume_handed (s : State) (L : Lane) :
    (s.handed L.port).takeResume L =
      if s.laneState L = .mirrored then s.answeredAt L.port kindResume .mirrored []
      else if s.laneState L ≠ .fault then s.answeredAt L.port kindResume .notFaulted []
      else if s.causePresent L then s.answeredAt L.port kindResume .causePresent []
      else (s.answeredAt L.port kindResume .ok []).resumeLane L := by
  simp only [State.takeResume, State.handed_laneState, State.handed_causePresent, State.refuse_handed,
    State.reply_handed]

/-- Settles O30: a taken RESUME enters READY and owes what `State.repierceOwed` says. -/
theorem resumeOwesTheRepierce : Obligations.ResumeOwesTheRepierce := by
  unfold Obligations.ResumeOwesTheRepierce
  intro L s h q present headCut owed kind refused
  have taken := (exec_resume_of_hands h).trans (congrArg Host.Outcome.next (s.takeResume_handed L))
  cases state : s.laneState L with
  | mirrored => exact taken.trans (by rw [if_pos state])
  | fault =>
    rw [if_neg (by simp [state]), if_neg (not_not.mpr state)] at taken
    refine ⟨fun cause => taken.trans (by rw [if_pos ((s.causePresent_iff L).mpr cause)]), fun gone => ?_⟩
    rw [if_neg (mt (s.causePresent_iff L).mp gone)] at taken
    refine taken.trans (congrArg (fun t => Host.Outcome.next (State.conclude t)) ?_)
    have owed_replied : (s.answeredAt L.port kindResume .ok []).repierceOwed L = s.repierceOwed L := by
      simp only [State.repierceOwed, State.queueHead, State.answeredAt_lane]
    have owed_eq : (s.answeredAt L.port kindResume .ok []).repierceOwed L = owed := owed_replied.trans rfl
    have kind_eq : repierceKindOf q.lastFaulted = kind := by
      simp only [kind]
      rcases q.lastFaulted with _ | _ | _ | _ | (_ | _) <;> rfl
    rw [owed_eq, State.enterReady_eq, State.modSeq_modLane]
    refine State.modLane_congr ?_
    have faulted : (((s.answeredAt L.port kindResume .ok []).meterStop L).lane L).seq.lastFaulted = q.lastFaulted := by
      rw [State.meterStop_seq, State.answeredAt_lane]
    rw [← kind_eq, ← faulted]
    rfl
  | _ => exact taken.trans (by rw [if_neg (by simp [state]), if_pos (by simp [state])])

/-! ## Faults (R80, R81) -/

theorem State.giveBack_removeEntry (t : State) (L : Lane) :
    (t.giveBack L).removeEntry L = t.modArbiter fun a =>
      { a with
        holder := if (a.holder.map Holder.lane) = some L then none else a.holder
        queue := a.queue.filter fun e => e.lane != L } := by
  rw [State.giveBack_eq]
  rfl

/-- A lane as the entry to FAULT leaves it, behind its record (R81). -/
def LaneUnit.faulted (cause : FaultCause) (released : Released) (u : LaneUnit) : LaneUnit :=
  { u with
    seq := { u.seq with
      state := .fault, released := .none, elapsed := none, lastFaulted := faultedKind released, nextPending := false,
      wait := .none, faultCause := some cause, lockTimer := none, leadTimer := none, dwellTimer := none,
      stallTimer := none, purgeTimer := none }
    gov := { u.gov with starved := false, starvationTimer := none, segmentMin := none }
    counters := { u.counters with
      faults := min 4294967295 (u.counters.faults + 1)
      segmentsEndedOther := min 4294967295 (u.counters.segmentsEndedOther + released.endedByFault) } }

theorem State.enterFault_eq (s : State) (L : Lane) (cause : FaultCause) :
    s.enterFault L cause =
      (((((s.meterStop L).recordReleased L (.faulted cause)).modArbiter fun a =>
        { a with
          holder := if (a.holder.map Holder.lane) = some L then none else a.holder
          queue := a.queue.filter fun e => e.lane != L }).modLane L
        (.faulted cause (s.lane L).seq.released))).raiseHead L .fault := by
  unfold State.enterFault
  generalize (s.meterStop L).recordReleased L (.faulted cause) = t
  dsimp only
  rw [State.giveBack_removeEntry]
  cases L <;> rfl

/-- The states with the valve open (R60). -/
theorem valveOpen_iff (state : LaneState) :
    state.valveOpen = true ↔
      state = .piercing .opened ∨ state = .piercing .dwell ∨ state = .cutting ∨ state = .openIdle ∨
        state = .stopping := by
  rcases state with _ | _ | (_ | _ | _) | _ | _ | _ | _ | _ | _ <;> simp [LaneState.valveOpen]

/-- PUMP_LOSS and INHIBIT reach a lane that pierces or has its valve open (R80). -/
theorem jetCause_reaches_iff {cause : FaultCause} (jets : cause = .pumpLoss ∨ cause = .inhibit) (state : LaneState) :
    cause.reaches state = true ↔ (∃ phase, state = .piercing phase) ∨ state.valveOpen = true := by
  obtain rfl | rfl := jets <;> cases state <;> simp [FaultCause.reaches]

/-- Settles O33: a cause in its row enters FAULT as `State.enterFault_eq` writes it out. -/
theorem causesFaultTheirStates : Obligations.CausesFaultTheirStates := by
  unfold Obligations.CausesFaultTheirStates
  refine ⟨⟨valveOpen_iff, fun s => ⟨rfl, ?follower⟩⟩, ?fault⟩
  case follower =>
    rw [State.valve]
    cases s.mirror <;> rfl
  case fault =>
    intro s L cause reaches released ended kind recorded
    have reaches_iff : cause.reaches (s.laneState L) = true ↔ reaches := by
      cases cause with
      | abrasiveLoss => exact Iff.rfl
      | starved | lockTimeout | stall => exact beq_iff_eq
      | pumpLoss => exact jetCause_reaches_iff (.inl rfl) _
      | inhibit => exact jetCause_reaches_iff (.inr rfl) _
    have ended_eq : released.endedByFault = ended := by
      rcases released with _ | ⟨_, _ | _ | _ | _, _, _, _⟩ | _ <;> rfl
    have kind_eq : faultedKind released = kind := by
      rcases released with _ | ⟨_, _ | _ | _ | _, _, _, _⟩ | _ <;> rfl
    refine ⟨fun out => if_neg (mt reaches_iff.mp out), fun within => ?_⟩
    rw [State.faultLane, if_pos (reaches_iff.mpr within), State.enterFault_eq, ← ended_eq, ← kind_eq]
    rfl

/-! ## The phases of a pierce (R75 to R79) -/

theorem State.enterRamp_eq (s : State) (L : Lane) :
    s.enterRamp L =
      let ramp := s.modSeq L fun q =>
        { q with state := .piercing .ramp, lockTimer := some s.config.timing.lockTimeout, stepCount := 0 }
      if s.monitor.locked then ramp.enterOpen L else ramp := by
  rw [State.enterRamp]
  simp only [State.modSeq_monitor]

theorem State.enterOpen_eq (s : State) (L : Lane) :
    s.enterOpen L =
      let opened := s.modLane L fun u =>
        { u with
          seq := { u.seq with state := .piercing .opened, lockTimer := none }
          counters := { u.counters with pierces := min 4294967295 (u.counters.pierces + 1) } }
      if (s.recipe L).abrasiveLead = 0 then opened.enterDwell L
      else opened.modSeq L fun q => { q with leadTimer := some (s.recipe L).abrasiveLead } := by
  have opened : (s.countLane L .addPierce).modSeq L (fun q =>
      { q with state := .piercing .opened, lockTimer := none }) =
        s.modLane L fun u =>
          { u with
            seq := { u.seq with state := .piercing .opened, lockTimer := none }
            counters := { u.counters with pierces := min 4294967295 (u.counters.pierces + 1) } } := by
    cases L <;> rfl
  rw [State.enterOpen, opened]

/-- What a START leaves of what is released. -/
theorem State.meterStart_released (s : State) (L : Lane) (n : Nat) :
    ((s.meterStart L n).lane L).seq.released = (s.lane L).seq.released :=
  congrArg LaneView.released (State.view_lane (s.meterStart_view L n) L)

theorem State.meterStart_recipe (s : State) (L : Lane) (n : Nat) : (s.meterStart L n).recipe L = s.recipe L := by
  rw [State.recipe, State.meterStart_seq_recipe, State.view_config (s.meterStart_view L n), State.recipe]

/-- The dwell of a pierce (R77), by what is released. -/
theorem State.dwellLength_eq (s : State) (L : Lane) :
    s.dwellLength L =
      match (s.lane L).seq.released with
      | .segment ⟨_, .pierce (some n), _, _, _⟩ => n
      | .repierce _ .kerf => (s.recipe L).kerfDwell
      | _ => (s.recipe L).pierceDwell := by
  unfold State.dwellLength
  rcases (s.lane L).seq.released with _ | ⟨_, _ | (_ | _) | _ | _, _, _, _⟩ | ⟨_, _ | _⟩ <;> rfl

/-- DWELL starts with the dwell of what was released. -/
theorem State.dwelling_dwellLength (s : State) (L : Lane) (n : Nat) :
    ((s.meterStart L n).modSeq L fun q => { q with state := .piercing .dwell, leadTimer := none }).dwellLength L =
      s.dwellLength L := by
  have recipe : ((s.meterStart L n).modSeq L fun q =>
      { q with state := .piercing .dwell, leadTimer := none }).recipe L = s.recipe L := by
    rw [← s.meterStart_recipe L n]
    cases L <;> rfl
  rw [State.dwellLength_eq, State.dwellLength_eq, State.modSeq_lane_seq, recipe, State.meterStart_released]

theorem State.enterDwell_eq (s : State) (L : Lane) :
    s.enterDwell L =
      let dwelling := (s.meterStart L (s.recipe L).lPierce).modSeq L fun q =>
        { q with state := .piercing .dwell, leadTimer := none }
      if s.dwellLength L = 0 then dwelling.endDwell L
      else dwelling.modSeq L fun q => { q with dwellTimer := some (s.dwellLength L) } := by
  rw [State.enterDwell]
  simp only [State.dwelling_dwellLength]

/-- A lane in OPEN_IDLE behind the end of a dwell. -/
def LaneUnit.dwellEnded (stallLimit : Nat) (u : LaneUnit) : LaneUnit :=
  { u with
    seq := { u.seq with state := .openIdle, released := .none, elapsed := none, stallTimer := some stallLimit }
    gov := { u.gov with starved := false, starvationTimer := none, segmentMin := none } }

theorem State.enterOpenIdle_endReleased (t : State) (L : Lane) :
    (t.endReleased L).enterOpenIdle L = t.modLane L (.dwellEnded t.config.timing.stallLimit) := by
  cases L <;> rfl

theorem State.endDwell_eq (s : State) (L : Lane) :
    s.endDwell L =
      let released := (s.lane L).seq.released
      let freed := ((s.modSeq L fun q => { q with dwellTimer := none }).meterLevel L (s.recipe L).lCut).modArbiter
        fun a => { a with holder := if (a.holder.map Holder.lane) = some L then none else a.holder }
      let idle := ((freed.recordReleased L .done).noticePierceDone L released.segId).modLane L
        (.dwellEnded s.config.timing.stallLimit)
      match released with
      | .repierce _ _ => (idle.clearRepierce L).attempt L false
      | _ => idle.countLane L .addSegmentsDone := by
  have config (t : State) (L : Lane) (n : Nat) (config : t.config = s.config) :
      ((t.recordReleased L .done).noticePierceDone L n).config.timing = s.config.timing := by
    rw [State.noticePierceDone, State.config_of_base (State.send_base ..),
      State.config_of_base (State.recordReleased_base ..), config]
  rw [State.endDwell]
  dsimp only
  rw [State.giveBack_eq, State.enterOpenIdle_endReleased, config _ L _ (by
    rw [State.modArbiter_config, State.view_config (State.meterLevel_view ..), State.modSeq_config])] <;> rfl

/-- Settles O35: each phase as the model enters it. -/
theorem piercePhasesFollow : Obligations.PiercePhasesFollow := by
  unfold Obligations.PiercePhasesFollow
  refine ⟨fun s L => ⟨s.enterRamp_eq L, s.enterOpen_eq L, ?dwell⟩, fun s L => ?ended⟩
  case dwell =>
    have entered := s.enterDwell_eq L
    rw [State.dwellLength_eq] at entered
    exact entered
  case ended =>
    have ended := s.endDwell_eq L
    generalize (s.lane L).seq.released = released at ended ⊢
    cases released <;> exact ended

end Sys2Proof.Machine

/-! PROOFS. The lane timers (O34), the settle timer (O36), DONE (O29) and ABORT (O31). -/

namespace Sys2Proof.Machine

/-! ## Expiries -/

section
variable {s : State} (live : s.resetInput = false)
include live

/-- An event that a timer due makes, and that nothing else makes. -/
theorem exec_of_timer {c : Instr} {event : State → State} {timer : Timer} {t : State}
    (runs : exec c s = .next (s.unlessHeld event)) (fires : event s = if timer.due then t else s) :
    (timer = some 0 → exec c s = .next t) ∧ (timer ≠ some 0 → exec c s = .next s) := by
  rw [State.unlessHeld_live live, fires] at runs
  refine ⟨fun due => ?_, fun early => ?_⟩
  · rw [runs, if_pos ((Timer.due_iff _).mpr due)]
  · rw [runs, if_neg (mt (Timer.due_iff _).mp early)]

/-- An expiry that ends a phase comes in its state alone. -/
theorem exec_of_phase {c : Instr} {event : State → State} {timer : Timer} {state now : LaneState} {t : State}
    (runs : exec c s = .next (s.unlessHeld event))
    (fires : event s = if timer.due && now == state then t else s) :
    (timer = some 0 ∧ now = state → exec c s = .next t) ∧
      (¬ (timer = some 0 ∧ now = state) → exec c s = .next s) := by
  have judged : (timer.due && now == state) = true ↔ timer = some 0 ∧ now = state := by
    rw [Bool.and_eq_true, Timer.due_iff, beq_iff_eq]
  rw [State.unlessHeld_live live, fires] at runs
  refine ⟨fun due => ?_, fun early => ?_⟩
  · rw [runs, if_pos (judged.mpr due)]
  · rw [runs, if_neg (mt judged.mp early)]

end

theorem State.endPurge_eq (s : State) (L : Lane) :
    s.endPurge L = ((s.meterStop L).modLane L LaneUnit.atReady).attempt L false := by
  rw [State.endPurge, State.enterReady_eq]

/-- Settles O34: each expiry by its timer, and by its state where it ends a phase. -/
theorem laneTimersExpire : Obligations.LaneTimersExpire := by
  unfold Obligations.LaneTimersExpire
  refine ⟨fun L s live => ?timers, fun L s live => ?phases, fun L s live => ?waits⟩
  case timers =>
    have lock := exec_of_timer live (c := .lockTimeoutExpiry L) rfl rfl
    have stall := exec_of_timer live (c := .stallExpiry L) rfl rfl
    have starved := exec_of_timer live (c := .starvationTimerExpiry L) rfl rfl
    exact ⟨lock.1, lock.2, stall.1, stall.2, starved.1, starved.2⟩
  case phases =>
    have purge : s.purgeExpiry L =
        if Timer.due (s.lane L).seq.purgeTimer && s.laneState L == .stopping then
          (((s.meterStop L).modLane L LaneUnit.atReady).attempt L false).conclude
        else s := by
      rw [State.purgeExpiry, State.endPurge_eq]
    exact ⟨exec_of_phase live rfl rfl, exec_of_phase live rfl rfl,
      exec_of_phase live rfl purge⟩
  case waits =>
    have taken : exec (.pierceWaitTimerExpiry L) s = .next (s.pierceWaitExpiry L) :=
      congrArg Host.Outcome.next (State.unlessHeld_live live _)
    have due_iff : (s.arbiter.queue.any fun e => e.lane == L && Timer.due e.waitTimer) = true ↔
        ∃ e ∈ s.arbiter.queue, e.lane = L ∧ e.waitTimer = some 0 := by
      simp only [List.any_eq_true, Bool.and_eq_true, beq_iff_eq, Timer.due_iff]
    refine ⟨fun early => ?_, fun due => ?_⟩
    · rw [taken, State.pierceWaitExpiry, if_neg (mt due_iff.mp early)]
    · rw [taken, State.pierceWaitExpiry, if_pos (due_iff.mpr due)]

/-- Settles O36: the lanes in RAMP open their valves, lane A first. -/
theorem settleLocksAndOpens : Obligations.SettleLocksAndOpens := by
  unfold Obligations.SettleLocksAndOpens
  intro s live locked inRamp
  obtain ⟨fires, early⟩ := exec_of_timer live (c := .settleTimerExpiry) rfl rfl
  refine ⟨early, fun due => ?_⟩
  have taken := fires due
  dsimp only at taken
  have opens {L : Lane} (ramp : inRamp L) (t : State) :
      (if s.laneState L = .piercing .ramp then t.enterOpen L else t) = t.enterOpen L := if_pos ramp
  have stays {L : Lane} (still : ¬ inRamp L) (t : State) :
      (if s.laneState L = .piercing .ramp then t.enterOpen L else t) = t := if_neg still
  refine ⟨fun a b => ?_, fun a b => ?_, fun a b => ?_, fun a b => ?_⟩
  · rw [taken, stays b, stays a]
  · rw [taken, stays b, opens a]
  · rw [taken, opens b, stays a]
  · rw [taken, opens b, opens a]

end Sys2Proof.Machine

/-! PROOFS. DONE (O29) and ABORT (O31). -/

namespace Sys2Proof.Machine

/-! ## A STOP and the other changes of a lane -/

theorem State.modLane_comm (s : State) (L M : Lane) {f g : LaneUnit → LaneUnit} (comm : ∀ u, f (g u) = g (f u)) :
    (s.modLane L g).modLane M f = (s.modLane M f).modLane L g := by
  have same (N : Lane) : (s.modLane N g).modLane N f = (s.modLane N f).modLane N g := by
    rw [State.modLane_modLane, State.modLane_modLane, funext comm]
  cases L <;> cases M
  · exact same .A
  · rfl
  · rfl
  · exact same .B

theorem State.modMetered_modLane (s : State) (L M : Lane) {f g : LaneUnit → LaneUnit}
    (comm : ∀ u, f (g u) = g (f u)) : (s.modLane L g).modMetered M f = (s.modMetered M f).modLane L g := by
  unfold State.modMetered
  rw [State.modLane_mirror]
  split
  · rw [State.modLane_comm _ L .A comm, State.modLane_comm _ L .B comm]
  · rw [State.modLane_comm _ L M comm]

/-- A STOP and a count of the lane do not meet. -/
theorem State.meterStop_countLane (s : State) (L M : Lane) (f : LaneCounters → LaneCounters) :
    (s.countLane L f).meterStop M = (s.meterStop M).countLane L f := by
  rw [State.meterStop_eq, State.meterStop_eq]
  refine State.modMetered_modLane s L M fun u => ?_
  unfold LaneUnit.meterStopped
  dsimp only
  split <;> rfl

/-! ## DONE (R70 to R73) -/

theorem exec_done_of_hands {L : Lane} {segId : Nat} {s : State} (h : s.hands L.port (.done L segId) = true) :
    exec (.done L segId) s = .next ((s.handed L.port).takeDone L segId) :=
  congrArg Host.Outcome.next (State.handOn_of_hands h _)

/-- A lane whose released cut ends DONE. -/
def LaneUnit.cutEnded (length : Nat) (u : LaneUnit) : LaneUnit :=
  { u with
    seq := { u.seq with released := .none, elapsed := none }
    gov := { u.gov with starved := false, starvationTimer := none, segmentMin := none }
    counters := { u.counters with
      segmentsDone := min 4294967295 (u.counters.segmentsDone + 1)
      cutLength := min 4294967295 (u.counters.cutLength + length) } }

theorem State.finish_of_other (s : State) (L : Lane) {e : Entry} (other : Segment.cut? e.seg = none) :
    s.finish L e =
      ((s.recordReleased L .done).meterStop L).modLane L fun u =>
        { u.atReady with
          counters := { u.counters with segmentsDone := min 4294967295 (u.counters.segmentsDone + 1) } } := by
  rw [State.finish.eq_def, other]
  dsimp only
  rw [State.enterReady_eq, State.meterStop_countLane, State.countLane, State.modLane_modLane]
  rfl

theorem State.finish_of_cut (s : State) (L : Lane) {e : Entry} {c : Cut} (cut : Segment.cut? e.seg = some c) :
    let ended := (s.recordReleased L .done).modLane L (.cutEnded c.length)
    s.finish L e =
      if c.endJetOff then
        let stopping := (ended.meterStop L).modSeq L fun q => { q with state := .stopping }
        if (s.recipe L).purge = 0 then stopping.endPurge L
        else stopping.modSeq L fun q => { q with purgeTimer := some (s.recipe L).purge }
      else
        ended.modSeq L fun q => { q with state := .openIdle, stallTimer := some s.config.timing.stallLimit } := by
  intro ended
  have ended_eq : (((s.recordReleased L .done).countLane L .addSegmentsDone).countLane L
      (.addCutLength c.length)).endReleased L = ended := by
    simp only [ended]
    generalize s.recordReleased L .done = t
    cases L <;> rfl
  have config : ended.config = s.config := by
    rw [State.modLane_config, State.config_of_base (State.recordReleased_base ..)]
  rw [State.finish.eq_def, cut]
  dsimp only
  rw [ended_eq, State.enterOpenIdle, config]

theorem State.answeredAt_recipe (s : State) (p : Port) (kind : Nat) (result : Result) (body : List Byte) (L : Lane) :
    (s.answeredAt p kind result body).recipe L = s.recipe L := by
  rw [State.recipe, State.answeredAt_lane, State.answeredAt_config, State.recipe]

/-- Settles O29: DONE by the lane's state and what it has released; the ends by `State.finish_of_cut` and
`State.finish_of_other`. -/
theorem doneEndsTheSegment : Obligations.DoneEndsTheSegment := by
  unfold Obligations.DoneEndsTheSegment
  intro L segId s h q refused recorded counted ended outcome cutDone judged
  have taken := exec_done_of_hands h
  have judged_of (judges : (s.handed L.port).takeDone L segId =
      match q.released with
      | .segment e =>
        if e.segId = segId then ((s.answeredAt L.port kindDone .ok []).finish L e).conclude
        else s.answeredAt L.port kindDone .wrongSegment []
      | _ => s.answeredAt L.port kindDone .wrongSegment []) : judged := by
    have taken := taken.trans (congrArg Host.Outcome.next judges)
    have cut_case {e : Entry} {c : Cut} (cut : Segment.cut? e.seg = some c)
        (ends : exec (.done L segId) s = .next ((s.answeredAt L.port kindDone .ok []).finish L e).conclude) :
        cutDone c := by
      rw [State.finish_of_cut _ L cut, State.answeredAt_recipe, State.answeredAt_config] at ends
      simp only [cutDone]
      split
      case isTrue off =>
        rw [if_pos off] at ends
        refine ⟨fun purge => ?_, fun none? => ?_⟩
        · exact ends.trans (by rw [if_neg purge]; rfl)
        · exact ends.trans (by rw [if_pos none?]; rfl)
      case isFalse stays =>
        rw [if_neg stays, State.modSeq_modLane] at ends
        exact ends
    simp only [judged]
    cases released : q.released with
    | none | repierce => exact taken.trans (by rw [released])
    | segment e =>
      rw [released] at taken
      refine ⟨fun other => taken.trans (congrArg _ (if_neg other)), fun same => ?_⟩
      have ends := taken.trans (congrArg _ (if_pos same))
      rcases e with ⟨n, seg, fSeg, fJunc, junction⟩
      cases seg with
      | line | arc => exact cut_case rfl ends
      | traverse | pierce => exact ends.trans (congrArg _ (congrArg _ (State.finish_of_other _ L rfl)))
  have judges (state : s.laneState L = .cutting ∨ s.laneState L = .traversing) : judged := by
    refine judged_of ?_
    rw [State.takeDone.eq_def, State.handed_laneState]
    obtain state | state := state
    all_goals
      rw [state]
      dsimp only
      rw [State.handed_lane]
      cases (s.lane L).seq.released <;> simp only [State.refuse_handed, State.reply_handed]
  clear_value judged
  have refused_of {result : Result}
      (refuses : (s.handed L.port).takeDone L segId = (s.handed L.port).refuse L.port kindDone result) :
      refused result :=
    taken.trans (congrArg Host.Outcome.next (refuses.trans (State.refuse_handed ..)))
  cases state : s.laneState L with
  | cutting => exact judges (.inl state)
  | traversing => exact judges (.inr state)
  | _ => exact refused_of (by rw [State.takeDone.eq_def, State.handed_laneState, state])

/-! ## ABORT (R85, R86) -/

/-- A lane whose generator stands takes a STOP as it is (R150). -/
theorem State.meterStop_of_stopped {s : State} {L : Lane}
    (stopped : ∀ M, M = L ∨ L = .A ∧ s.mirror = true → (s.lane M).gen.running = false) : s.meterStop L = s := by
  have still (t : State) (M : Lane) (stands : (t.lane M).gen.running = false) :
      t.modLane M LaneUnit.meterStopped = t := by
    rw [← State.stopUnit_eq, State.stopUnit, stands]
    rfl
  rw [State.meterStop_eq, State.modMetered]
  split
  case isTrue ganged =>
    rw [still s .A (stopped .A (.inr ganged)), still s .B (stopped .B (.inr ganged))]
  case isFalse => exact still s L (stopped L (.inl rfl))

theorem LaneUnit.meterStopped_running (u : LaneUnit) : u.meterStopped.gen.running = false := by
  unfold LaneUnit.meterStopped
  split
  case isTrue => rfl
  case isFalse idle => exact Bool.eq_false_iff.mpr idle

/-- Behind a STOP the generators it reaches stand. -/
theorem State.meterStop_running (s : State) {L M : Lane} (reached : M = L ∨ L = .A ∧ s.mirror = true) :
    ((s.meterStop L).lane M).gen.running = false := by
  rw [State.meterStop_eq, State.modMetered]
  split
  case isTrue =>
    cases M
    · exact LaneUnit.meterStopped_running _
    · exact LaneUnit.meterStopped_running _
  case isFalse alone =>
    obtain rfl | ganged := reached
    · rw [State.modLane_lane]
      exact LaneUnit.meterStopped_running _
    · exact absurd ganged alone

theorem State.writeRecord_part {α : Type} (s : State) (L : Lane) (r : Record) (part : LaneUnit → α)
    (keeps : ∀ u records counters, part { u with fifo := records, counters := counters } = part u) (M : Lane) :
    part ((s.writeRecord L r).lane M) = part (s.lane M) := by
  have fifo (t : State) (f : List Record → List Record) :
      part ((t.modLane L fun u => { u with fifo := f u.fifo }).lane M) = part (t.lane M) :=
    State.modLane_part t L part (fun u => keeps u _ u.counters) M
  have counted (t : State) (f : LaneCounters → LaneCounters) : part ((t.countLane L f).lane M) = part (t.lane M) :=
    State.modLane_part t L part (fun u => keeps u u.fifo _) M
  unfold State.writeRecord
  dsimp only
  split
  · rw [State.raiseHead_lane]
    exact fifo s fun _ => [r]
  · split
    · exact fifo s fun records => records ++ [r]
    · split
      · rw [State.raiseHead_lane, counted]
      · rw [State.raiseHead_lane, counted]
        exact fifo s fun records => records.tail ++ [r]

/-- A record and a change of the lane queue do not meet. -/
theorem State.writeRecord_modQueue (s : State) (L : Lane) (r : Record) (f : LaneQueue → LaneQueue) :
    (s.modQueue L f).writeRecord L r = (s.writeRecord L r).modQueue L f := by
  have region : (s.modQueue L f).fifoRegion L = s.fifoRegion L := by cases L <;> rfl
  have mode : (s.modQueue L f).fifoMode L = s.fifoMode L := by cases L <;> rfl
  have fifo : ((s.modQueue L f).lane L).fifo = (s.lane L).fifo := by cases L <;> rfl
  unfold State.writeRecord
  dsimp only
  rw [region, mode, fifo, State.modQueue, State.modQueue]
  split
  · rw [State.raiseHead_modLane]
    cases L <;> rfl
  · split
    · cases L <;> rfl
    · split
      · rw [State.raiseHead_modLane]
        cases L <;> rfl
      · rw [State.raiseHead_modLane]
        cases L <;> rfl

theorem State.recordReleased_part {α : Type} (s : State) (L : Lane) (outcome : RecordEnd) (part : LaneUnit → α)
    (keeps : ∀ u records counters, part { u with fifo := records, counters := counters } = part u) (M : Lane) :
    part ((s.recordReleased L outcome).lane M) = part (s.lane M) := by
  unfold State.recordReleased
  split
  · exact s.writeRecord_part L _ part keeps M
  · rfl

/-- A lane as a taken ABORT leaves it, behind its records (R86). -/
def LaneUnit.aborted (region : Region) (u : LaneUnit) : LaneUnit :=
  { u.atReady with
    queue := .emptied region
    seq := { u.seq.atReady with
      postedJet := false, nextPending := false, wait := .none, repierceFlag := false, repierceKind := none,
      faultCause := none } }

/-- A lane whose ended segments are counted, released ones before discarded ones. -/
def LaneUnit.endedCounted (released discarded : Nat) (u : LaneUnit) : LaneUnit :=
  { u with
    counters := { u.counters with
      segmentsEndedOther :=
        min 4294967295 (min 4294967295 (u.counters.segmentsEndedOther + released) + discarded) } }

/-- The lane behind the first record of an ABORT: the grant given back, its entry gone, the ended segments counted. -/
def State.abortCounted (s : State) (L : Lane) : State :=
  (((s.meterStop L).recordReleased L .aborted).modArbiter fun a =>
    { a with
      holder := if (a.holder.map Holder.lane) = some L then none else a.holder
      queue := a.queue.filter fun e => e.lane != L }).modLane L
    (.endedCounted (s.lane L).seq.released.endedByAbort (s.fill L))

theorem State.abortCounted_config (s : State) (L : Lane) : (s.abortCounted L).config = s.config := by
  rw [State.abortCounted, State.modLane_config, State.modArbiter_config,
    State.config_of_base (State.recordReleased_base ..), State.view_config (s.meterStop_view L)]

theorem State.abortCounted_mirror (s : State) (L : Lane) : (s.abortCounted L).mirror = s.mirror := by
  rw [State.abortCounted, State.modLane_mirror, State.modArbiter_mirror,
    State.mirror_of_base (State.recordReleased_base ..), State.view_mirror (s.meterStop_view L)]

theorem State.abortCounted_running (s : State) {L M : Lane} (reached : M = L ∨ L = .A ∧ s.mirror = true) :
    ((s.abortCounted L).lane M).gen.running = false := by
  have counted (t : State) (f : Arbiter → Arbiter) (n m : Nat) :
      (((t.modArbiter f).modLane L (.endedCounted n m)).lane M).gen = (t.lane M).gen := by
    cases L <;> cases M <;> rfl
  rw [State.abortCounted, counted, State.recordReleased_part _ _ _ LaneUnit.gen fun _ _ _ => rfl]
  exact s.meterStop_running reached

theorem State.abortLane_eq (s : State) (L : Lane) :
    s.abortLane L =
      ((s.abortCounted L).writeRecord L (abortRecord (s.lane L).seq.abortSegId s.timestamp (s.fill L))).modLane L
        (.aborted (s.queueRegion L)) := by
  have region : (s.abortCounted L).queueRegion L = s.queueRegion L := by
    cases hL : L <;> simp only [State.queueRegion, s.abortCounted_config]
  have emptied : ((((((s.meterStop L).recordReleased L .aborted).countLane L
      (.addEndedOther (s.lane L).seq.released.endedByAbort)).giveBack L).removeEntry L).emptyQueue L).countLane L
        (.addEndedOther (s.fill L)) = (s.abortCounted L).modQueue L fun _ => .emptied (s.queueRegion L) := by
    rw [State.giveBack_removeEntry, ← region, State.abortCounted]
    generalize (s.meterStop L).recordReleased L .aborted = t
    cases L <;> rfl
  rw [State.abortLane, emptied, State.writeRecord_modQueue, State.enterReady_eq, State.meterStop_of_stopped]
  · generalize (s.abortCounted L).writeRecord L _ = t
    cases L <;> rfl
  · intro M reached
    have gen (t : State) (f : LaneQueue → LaneQueue) : ((t.modQueue L f).lane M).gen = (t.lane M).gen := by
      cases L <;> cases M <;> rfl
    have mirror : (((s.abortCounted L).writeRecord L (abortRecord (s.lane L).seq.abortSegId s.timestamp
        (s.fill L))).modQueue L fun _ => .emptied (s.queueRegion L)).mirror = s.mirror := by
      rw [State.modQueue, State.modLane_mirror, State.mirror_of_base (State.writeRecord_base ..),
        s.abortCounted_mirror]
    rw [mirror] at reached
    rw [gen, State.writeRecord_part _ _ _ LaneUnit.gen fun _ _ _ => rfl]
    exact s.abortCounted_running reached

theorem exec_abort_of_hands {source : AbortSource} {s : State}
    (h : s.hands (AbortSource.port source) (.abort source) = true) :
    exec (.abort source) s = .next ((s.handed (AbortSource.port source)).takeAbort source) :=
  congrArg Host.Outcome.next (State.handOn_of_hands h _)

/-- ABORT of a lane, handed on: the checks of R85 behind the lane field. -/
theorem State.takeAbort_handed (s : State) {source : AbortSource} {L : Lane} (names : AbortSource.lane source = some L) :
    let p := AbortSource.port source
    (s.handed p).takeAbort source =
      if s.laneState L = .mirrored then s.answeredAt p kindAbort .mirrored []
      else if s.laneState L = .closed then s.answeredAt p kindAbort .noJob []
      else ((s.answeredAt p kindAbort .ok []).abortLane L).conclude := by
  intro p
  rw [State.takeAbort.eq_def, names]
  simp only [State.handed_laneState, State.refuse_handed, State.reply_handed, p]

/-- Settles O31: the checks in their order, and a taken ABORT by `State.abortLane_eq`. -/
theorem abortClearsTheLane : Obligations.AbortClearsTheLane := by
  unfold Obligations.AbortClearsTheLane
  intro source s p h refused taken judged
  have port : AbortSource.port source = p := by cases source <;> rfl
  have judged_of {L : Lane} (names : AbortSource.lane source = some L) : judged L := by
    have runs := (exec_abort_of_hands (port ▸ h)).trans (congrArg Host.Outcome.next (s.takeAbort_handed names))
    rw [port] at runs
    have taken_of (runs : exec (.abort source) s =
        .next ((s.answeredAt p kindAbort .ok []).abortLane L).conclude) : taken L := by
      have region : (s.answeredAt p kindAbort .ok []).queueRegion L = s.queueRegion L := by
        cases L <;> simp only [State.queueRegion, State.answeredAt_config]
      rw [State.abortLane_eq, State.abortCounted, region, State.fill, State.answeredAt_lane,
        State.answeredAt_timestamp] at runs
      simp only [taken]
      cases released : (s.lane L).seq.released with
      | none | segment | repierce =>
        rw [Sequencer.abortSegId, released] at runs
        exact runs
    simp only [judged]
    cases state : s.laneState L with
    | mirrored => exact runs.trans (by rw [if_pos state])
    | closed => exact runs.trans (by rw [if_neg (by simp [state]), if_pos state])
    | _ => exact taken_of (runs.trans (by rw [if_neg (by simp [state]), if_neg (by simp [state])]))
  have bad (undefined : AbortSource.lane source = none) : refused .badField := by
    refine (exec_abort_of_hands (port ▸ h)).trans (congrArg Host.Outcome.next ?_)
    rw [State.takeAbort.eq_def, undefined]
    dsimp only
    rw [State.refuse_handed, port]
  clear_value judged
  match source with
  | .head L => exact judged_of rfl
  | .cell 0 => exact judged_of rfl
  | .cell 1 => exact judged_of rfl
  | .cell (n + 2) => exact bad rfl

end Sys2Proof.Machine

/-! PROOFS. The target (O39), and the inputs of the inhibit (O49). -/

namespace Sys2Proof.Machine

/-! ## The target (R106, R109, R126) -/

/-- The lock conditions (R125). -/
abbrev Monitor.Steady (m : Monitor) (target : Nat) (t : Timing) : Prop :=
  m.lost = false ∧ m.history ≠ [] ∧ m.ramped = target ∧
    max m.filtered target - min m.filtered target ≤ t.band

/-- The monitor with its lock conditions judged (R125, R126). -/
def Monitor.judged (m : Monitor) (target : Nat) (t : Timing) : Monitor :=
  { m with
    locked := if m.Steady target t then m.locked else false
    settleTimer :=
      if m.Steady target t then
        if m.locked = true ∨ m.settleTimer ≠ none then m.settleTimer else some t.settle
      else none }

theorem State.lockConditions_iff (s : State) :
    s.lockConditions = true ↔ s.monitor.Steady s.arbiter.target s.config.timing := by
  simp [State.lockConditions, distance, Monitor.Steady, and_assoc]

theorem State.judgeLock_eq (s : State) :
    s.judgeLock = { s with monitor := s.monitor.judged s.arbiter.target s.config.timing } := by
  unfold State.judgeLock Monitor.judged
  split
  case isTrue holds =>
    have holds := s.lockConditions_iff.mp holds
    rw [if_pos holds, if_pos holds]
    split
    case isTrue going =>
      have going : s.monitor.locked = true ∨ s.monitor.settleTimer ≠ none := by
        simpa [Option.isSome_iff_ne_none] using going
      rw [if_pos going]
    case isFalse idle =>
      have idle : ¬ (s.monitor.locked = true ∨ s.monitor.settleTimer ≠ none) := by
        simpa [Option.isSome_iff_ne_none] using idle
      rw [if_neg idle]
      rfl
  case isFalse fails =>
    have fails := mt s.lockConditions_iff.mpr fails
    rw [if_neg fails, if_neg fails]
    rfl

/-- The monitor behind a change of the target, judged afresh (R126). -/
def Monitor.retargeted (m : Monitor) (target : Nat) (t : Timing) : Monitor :=
  { m with locked := false, settleTimer := if m.Steady target t then some t.settle else none }

theorem Monitor.judged_fresh (m : Monitor) (target : Nat) (t : Timing) :
    ({ m with locked := false, settleTimer := none } : Monitor).judged target t = m.retargeted target t := by
  simp only [Monitor.judged, Monitor.retargeted, Monitor.Steady, ite_self, Bool.false_eq_true, ne_eq,
    not_true_eq_false, or_self, if_false]

theorem State.setTarget_eq (s : State) (n : Nat) :
    s.setTarget n =
      if n = s.arbiter.target then s
      else
        { s with
          arbiter := { s.arbiter with target := n }, monitor := s.monitor.retargeted n s.config.timing } := by
  unfold State.setTarget
  rw [State.judgeLock_eq, ← Monitor.judged_fresh]
  rfl

theorem State.targetRule_of_withheld {s : State}
    (none? : s.inhibit = true ∨ s.monitor.lost = true ∨ s.jobless .A = true ∧ s.jobless .B = true) :
    s.targetRule = 0 := by
  have off : (s.inhibit || s.monitor.lost || !s.anyJobOpen) = true := by
    rw [← State.not_anyJobOpen_iff] at none?
    rw [Bool.or_eq_true, Bool.or_eq_true, Bool.not_eq_true']
    tauto
  rw [State.targetRule, if_pos off]

theorem State.targetRule_of_open {s : State} (inhibit : s.inhibit = false) (lost : s.monitor.lost = false)
    (job : s.jobless .A = false ∨ s.jobless .B = false) :
    s.targetRule =
      match s.arbiter.holder with
      | some h => h.pressure
      | none =>
        match s.jetLanes.map fun L => (s.recipe L).pCut with
        | [] => s.config.timing.standbyPressure
        | p :: ps => ps.foldl min p := by
  have on : (s.inhibit || s.monitor.lost || !s.anyJobOpen) = false := by
    rw [inhibit, lost, s.anyJobOpen_iff.mpr job]
    rfl
  exact if_neg (Bool.eq_false_iff.mp on)

theorem LaneState.jetOn_iff (state : LaneState) :
    state.jetOn = true ↔ state = .cutting ∨ state = .openIdle ∨ state = .stopping := by
  cases state <;> simp [LaneState.jetOn]

/-- Settles O39: `State.setTarget_eq` at the value of `State.targetRule`, row by row. -/
theorem targetFollowsTheRows : Obligations.TargetFollowsTheRows := by
  unfold Obligations.TargetFollowsTheRows
  intro s jet m becomes
  have becomes_of {n : Nat} (rule : s.targetRule = n) : becomes n := by
    have moved := s.setTarget_eq n
    rw [← rule] at moved ⊢
    exact moved
  clear_value becomes
  have jet_iff (L : Lane) : (s.laneState L).jetOn = true ↔ jet L := LaneState.jetOn_iff _
  refine ⟨fun none? => becomes_of (State.targetRule_of_withheld none?), fun inhibit lost job => ?_⟩
  have rule := State.targetRule_of_open inhibit lost job
  refine ⟨fun h held => becomes_of (rule.trans (by rw [held])), fun free => ?_⟩
  rw [free] at rule
  have jets (a b : Bool) (ha : (s.laneState .A).jetOn = a) (hb : (s.laneState .B).jetOn = b) :
      s.jetLanes = (if a then [.A] else []) ++ if b then [.B] else [] := by
    simp only [State.jetLanes, List.filter_cons, List.filter_nil, ha, hb]
    cases a <;> cases b <;> rfl
  have off {L : Lane} (still : ¬ jet L) : (s.laneState L).jetOn = false := Bool.eq_false_iff.mpr (mt (jet_iff L).mp still)
  refine ⟨fun a b => becomes_of ?_, fun a b => becomes_of ?_, fun a b => becomes_of ?_, fun a b => becomes_of ?_⟩
  · rw [rule, jets _ _ ((jet_iff .A).mpr a) ((jet_iff .B).mpr b)]
    rfl
  · rw [rule, jets _ _ ((jet_iff .A).mpr a) (off b)]
    rfl
  · rw [rule, jets _ _ (off a) ((jet_iff .B).mpr b)]
    rfl
  · rw [rule, jets _ _ (off a) (off b)]
    rfl

/-! ## The jet-inhibit input (R185) -/

/-- Settles O49: each change of the input, and the part at rest. -/
theorem inhibitFollowsItsInput : Obligations.InhibitFollowsItsInput := by
  unfold Obligations.InhibitFollowsItsInput
  intro s
  have asserts : exec .inhibitAssert s = .next s.inhibitAssert := rfl
  have releases : exec .inhibitRelease s = .next s.inhibitRelease := rfl
  refine ⟨fun low live => ?_, fun high live => ?_, fun high => ?_, fun low => ?_, fun held => ?_, fun held => ?_⟩
  · rw [asserts, State.inhibitAssert, if_neg (by simp [low])]
    exact congrArg Host.Outcome.next (State.unlessHeld_live (s := { s with inhibitInput := true }) live _)
  · rw [releases, State.inhibitRelease, if_pos high]
    exact congrArg Host.Outcome.next (State.unlessHeld_live (s := { s with inhibitInput := false }) live _)
  · rw [asserts, State.inhibitAssert, if_pos high]
  · rw [releases, State.inhibitRelease, if_neg (by simp [low])]
  · rw [asserts, State.inhibitAssert, State.unlessHeld]
    cases input : s.inhibitInput with
    | true => rw [if_pos rfl, ← input]
    | false =>
      rw [if_neg Bool.false_ne_true]
      exact congrArg _ (if_pos held)
  · rw [releases, State.inhibitRelease, State.unlessHeld]
    cases input : s.inhibitInput with
    | true =>
      rw [if_pos rfl]
      exact congrArg _ (if_pos held)
    | false => rw [if_neg Bool.false_ne_true, ← input]

end Sys2Proof.Machine

/-! PROOFS. What arrives from the pump drive (O40 to O42). -/

namespace Sys2Proof.Machine

/-! ## The loss of the pump (R118, R121, R122) -/

section
variable {s : State} (live : s.resetInput = false)
include live

theorem exec_feedback (pressure code : Nat) :
    exec (.feedback pressure code) s = .next (s.takeFeedback pressure code) :=
  congrArg Host.Outcome.next (State.unlessHeld_live live _)

theorem exec_feedback_running (pressure : Nat) : exec (.feedback pressure 1) s = .next (s.validSample pressure) :=
  exec_feedback live pressure 1

end

theorem pumpStatusOf_bad {code : Nat} (running : code ≠ 1) (stopped : code ≠ 2) (tripped : code ≠ 3) :
    pumpStatusOf code = .badStatus := by
  match code with
  | 0 => rfl
  | 1 => exact absurd rfl running
  | 2 => exact absurd rfl stopped
  | 3 => exact absurd rfl tripped
  | n + 4 => rfl

/-- Settles O42: each status, and the loss timer. -/
theorem pumpLossIsDeclared : Obligations.PumpLossIsDeclared := by
  unfold Obligations.PumpLossIsDeclared
  intro s live declared bad
  have declared_eq (t : State) (reason : LossReason) : t.declareLost reason = declared t reason := rfl
  have timer := exec_of_timer live (c := .lossTimerExpiry) rfl rfl
  refine ⟨fun pressure => exec_feedback live pressure 2, fun pressure => exec_feedback live pressure 3,
    fun pressure code running stopped tripped => ?_, timer.1, timer.2⟩
  rw [exec_feedback live, State.takeFeedback, pumpStatusOf_bad running stopped tripped]
  rfl

/-! ## Samples (R119, R120, R128) -/

/-- The state with another monitor. -/
def State.withMonitor (s : State) (m : Monitor) : State := { s with monitor := m }

theorem State.modMonitor_eq (s : State) (f : Monitor → Monitor) : s.modMonitor f = s.withMonitor (f s.monitor) := rfl

theorem State.raiseHead_withMonitor (s : State) (m : Monitor) (L : Lane) (e : HeadEvent) :
    (s.withMonitor m).raiseHead L e = (s.raiseHead L e).withMonitor m := by
  unfold State.raiseHead
  have route : (s.withMonitor m).route = s.route := rfl
  rw [route]
  dsimp only
  split <;> cases L <;> rfl

/-- RIPPLE is raised on all three ports and counted (R129). -/
def State.tellRipple (s : State) : State := (s.raiseAll .ripple .ripple).countPump .addRipple

theorem State.tellRipple_withMonitor (s : State) (m : Monitor) :
    (s.withMonitor m).tellRipple = s.tellRipple.withMonitor m := by
  rw [State.tellRipple, State.raiseAll, State.raiseHead_withMonitor, State.raiseHead_withMonitor]
  rfl

/-- RIPPLE, where it is told. -/
def State.tellRippleIf (s : State) (told : Prop) [Decidable told] : State := if told then s.tellRipple else s

theorem State.tellRippleIf_withMonitor (s : State) (m : Monitor) (told : Prop) [Decidable told] :
    (s.withMonitor m).tellRippleIf told = (s.tellRippleIf told).withMonitor m := by
  unfold State.tellRippleIf
  split
  · exact s.tellRipple_withMonitor m
  · rfl

/-- The alarm rises at the assert threshold (R129). -/
abbrev Monitor.RippleRises (m : Monitor) (t : Timing) (ripple : Nat) : Prop :=
  t.assertThreshold ≤ ripple ∧ m.alarm = false

/-- The ripple alarm behind a window (R129). -/
def Monitor.alarmAt (m : Monitor) (t : Timing) (ripple : Nat) : Bool :=
  if m.RippleRises t ripple then true
  else if ripple < t.assertThreshold ∧ ripple ≤ t.deassertThreshold then false
  else m.alarm

theorem State.judgeRipple_eq (s : State) (ripple : Nat) :
    s.judgeRipple ripple =
      (s.withMonitor { s.monitor with alarm := s.monitor.alarmAt s.config.timing ripple }).tellRippleIf
        (s.monitor.RippleRises s.config.timing ripple) := by
  have same : s.withMonitor { s.monitor with alarm := s.monitor.alarm } = s := rfl
  unfold State.judgeRipple Monitor.alarmAt State.tellRippleIf
  by_cases high : s.config.timing.assertThreshold ≤ ripple
  · rw [if_pos high]
    rcases Bool.eq_false_or_eq_true s.monitor.alarm with alarm | alarm
    · have stands : ¬ s.monitor.RippleRises s.config.timing ripple := by simp [Monitor.RippleRises, alarm]
      rw [if_pos alarm, if_neg stands, if_neg stands, if_neg (by omega)]
      exact same.symm
    · have rises : s.monitor.RippleRises s.config.timing ripple := ⟨high, alarm⟩
      rw [if_neg (by simp [alarm]), if_pos rises, if_pos rises]
      rfl
  · have stands : ¬ s.monitor.RippleRises s.config.timing ripple := fun rises => high rises.1
    rw [if_neg high, if_neg stands, if_neg stands]
    by_cases low : ripple ≤ s.config.timing.deassertThreshold
    · rw [if_pos low, if_pos ⟨by omega, low⟩]
      rfl
    · rw [if_neg low, if_neg fun both => low both.2]
      exact same.symm

/-- The sample in the history, with the filtered pressure (R120). -/
def Monitor.joined (m : Monitor) (p : Nat) : Monitor :=
  { m with history := joinHistory m.history p, filtered := meanPressure (joinHistory m.history p) }

/-- A valid sample clears a loss and restarts the loss timer (R123). -/
def Monitor.received (m : Monitor) (t : Timing) : Monitor :=
  { m with lossTimer := some t.lossLimit, lost := false, lossReason := none, lastStatus := some .running }

/-- The ripple window with one more sample (R128). -/
def Monitor.windowed (m : Monitor) (p : Nat) : Monitor := { m with window := m.window ++ [p] }

/-- The ripple window emptied, with its ripple and the alarm (R128, R129). -/
def Monitor.rippled (m : Monitor) (t : Timing) (ripple : Nat) : Monitor :=
  { m with window := [], lastRipple := some ripple, alarm := m.alarmAt t ripple }

theorem Monitor.judged_of_steady {m : Monitor} {target : Nat} {t : Timing} (steady : m.Steady target t) :
    m.judged target t =
      { m with
        settleTimer := if m.locked = true ∨ m.settleTimer ≠ none then m.settleTimer else some t.settle } := by
  rw [Monitor.judged, if_pos steady, if_pos steady]

theorem Monitor.judged_of_unsteady {m : Monitor} {target : Nat} {t : Timing} (unsteady : ¬ m.Steady target t) :
    m.judged target t = { m with locked := false, settleTimer := none } := by
  rw [Monitor.judged, if_neg unsteady, if_neg unsteady]

theorem joinHistory_ne_nil (history : List Nat) (p : Nat) : joinHistory history p ≠ [] := by simp [joinHistory]

section
variable {s : State}

theorem State.joinWindow_of_short {p : Nat} (short : s.monitor.window.length < 63) :
    s.joinWindow p = s.modMonitor fun m => m.windowed p :=
  if_pos (by rw [List.length_append]; exact Nat.succ_lt_succ short)

theorem State.joinWindow_of_full {p : Nat} (full : s.monitor.window.length = 63) :
    s.joinWindow p =
      (s.modMonitor fun m =>
        { m with window := [], lastRipple := some (rippleOf (m.window ++ [p])) }).judgeRipple
          (rippleOf (s.monitor.window ++ [p])) :=
  if_neg (by simp [windowSize, full])

theorem State.takeSample_def (s : State) (pressure : Nat) :
    s.takeSample pressure =
      (((s.modMonitor fun m => m.joined (min 7000 pressure)).joinWindow (min 7000 pressure)).modMonitor fun m =>
        m.received s.config.timing).judgeLock := rfl

theorem State.takeSample_of_short {pressure : Nat} (short : s.monitor.window.length < 63) :
    s.takeSample pressure =
      s.withMonitor
        ((((s.monitor.joined (min 7000 pressure)).windowed (min 7000 pressure)).received s.config.timing).judged
          s.arbiter.target s.config.timing) := by
  rw [State.takeSample_def, State.joinWindow_of_short (s := s.modMonitor fun m => m.joined _) short, State.judgeLock_eq]
  rfl

/-- What the lock is judged on does not move. -/
theorem State.tellRippleIf_judges (s : State) (told : Prop) [Decidable told] :
    (s.tellRippleIf told).monitor = s.monitor ∧ (s.tellRippleIf told).arbiter = s.arbiter ∧
      (s.tellRippleIf told).config = s.config := by
  unfold State.tellRippleIf
  split
  · refine ⟨?_, ?_, ?_⟩
    · calc s.tellRipple.monitor
          = ((s.raiseHead .A .ripple).raiseHead .B .ripple).monitor := rfl
        _ = s.monitor := by simp
    · calc s.tellRipple.arbiter
          = ((s.raiseHead .A .ripple).raiseHead .B .ripple).arbiter := rfl
        _ = s.arbiter := by simp
    · calc s.tellRipple.config
          = (((s.raiseHead .A .ripple).raiseHead .B .ripple).raiseCell .ripple).config := rfl
        _ = s.config := State.config_of_base (by simp)
  · exact ⟨rfl, rfl, rfl⟩

theorem State.tellRippleIf_judgeLock (s : State) (told : Prop) [Decidable told] (f : Monitor → Monitor) :
    ((s.tellRippleIf told).modMonitor f).judgeLock = ((s.modMonitor f).judgeLock).tellRippleIf told := by
  obtain ⟨monitor, arbiter, config⟩ := s.tellRippleIf_judges told
  calc ((s.tellRippleIf told).modMonitor f).judgeLock
      = (s.tellRippleIf told).withMonitor
          ((f (s.tellRippleIf told).monitor).judged (s.tellRippleIf told).arbiter.target
            (s.tellRippleIf told).config.timing) := State.judgeLock_eq _
    _ = (s.tellRippleIf told).withMonitor ((f s.monitor).judged s.arbiter.target s.config.timing) := by
      rw [monitor, arbiter, config]
    _ = (s.withMonitor ((f s.monitor).judged s.arbiter.target s.config.timing)).tellRippleIf told :=
      (s.tellRippleIf_withMonitor _ told).symm
    _ = ((s.modMonitor f).judgeLock).tellRippleIf told := by
      rw [State.judgeLock_eq]
      rfl

theorem State.takeSample_of_full {pressure : Nat} (full : s.monitor.window.length = 63) :
    s.takeSample pressure =
      (s.withMonitor
        ((((s.monitor.joined (min 7000 pressure)).rippled s.config.timing
          (rippleOf (s.monitor.window ++ [min 7000 pressure]))).received s.config.timing).judged
          s.arbiter.target s.config.timing)).tellRippleIf
        (s.monitor.RippleRises s.config.timing (rippleOf (s.monitor.window ++ [min 7000 pressure]))) := by
  rw [State.takeSample_def, State.joinWindow_of_full (s := s.modMonitor fun m => m.joined _) full, State.judgeRipple_eq, State.tellRippleIf_judgeLock, State.judgeLock_eq]
  rfl

/-- Of a monitor that has just received a sample the lock conditions are those of the pressures alone. -/
theorem Monitor.steady_of_received {m : Monitor} {target : Nat} {t : Timing} (lost : m.lost = false)
    (sampled : m.history ≠ []) :
    m.Steady target t ↔ m.ramped = target ∧ max m.filtered target - min m.filtered target ≤ t.band :=
  ⟨fun ⟨_, _, steady⟩ => steady, fun steady => ⟨lost, sampled, steady⟩⟩

theorem State.validSample_eq (s : State) (pressure : Nat) :
    s.validSample pressure =
      if s.monitor.lost then (s.takeSample pressure).conclude else (s.takeSample pressure).closeTick := rfl

/-- Settles O40: `State.takeSample_of_short`, with the lock conditions of a monitor that holds a sample. -/
theorem validSampleIsTaken : Obligations.ValidSampleIsTaken := by
  unfold Obligations.ValidSampleIsTaken
  intro pressure s live short p m history filtered target conditions taken outcome
  let sampled := ((m.joined p).windowed p).received s.config.timing
  have steady : sampled.Steady target s.config.timing ↔ conditions :=
    Monitor.steady_of_received rfl (joinHistory_ne_nil _ _)
  have outcome_of {u : Monitor} (judged : sampled.judged target s.config.timing = u) : outcome (s.withMonitor u) := by
    have takes : s.takeSample pressure = s.withMonitor u := (State.takeSample_of_short short).trans (congrArg _ judged)
    change exec (.feedback pressure 1) s = _
    rw [exec_feedback_running live, State.validSample_eq, takes]
  exact ⟨fun holds => outcome_of (Monitor.judged_of_steady (steady.mpr holds)),
    fun fails => outcome_of (Monitor.judged_of_unsteady (mt steady.mp fails))⟩

theorem State.raiseHead_pumpCounters (s : State) (L : Lane) (e : HeadEvent) :
    (s.raiseHead L e).pumpCounters = s.pumpCounters := by
  unfold State.raiseHead
  dsimp only
  split <;> cases L <;> rfl

theorem State.tellRippleIf_eq (s : State) (told : Prop) [Decidable told] :
    s.tellRippleIf told =
      if told then
        let raised := ((s.raiseHead .A .ripple).raiseHead .B .ripple).raiseCell .ripple
        { raised with
          pumpCounters := { s.pumpCounters with rippleAlarms := min 4294967295 (s.pumpCounters.rippleAlarms + 1) } }
      else s := by
  have counters : (((s.raiseHead .A .ripple).raiseHead .B .ripple).raiseCell .ripple).pumpCounters = s.pumpCounters := by
    calc (((s.raiseHead .A .ripple).raiseHead .B .ripple).raiseCell .ripple).pumpCounters
        = ((s.raiseHead .A .ripple).raiseHead .B .ripple).pumpCounters := rfl
      _ = s.pumpCounters := by rw [State.raiseHead_pumpCounters, State.raiseHead_pumpCounters]
  rw [← counters]
  rfl

/-- Settles O41: `State.takeSample_of_full`, with the lock conditions of a monitor that holds a sample. -/
theorem rippleWindowIsJudged : Obligations.RippleWindowIsJudged := by
  unfold Obligations.RippleWindowIsJudged
  intro pressure s live p m window ripple history filtered target conditions rises falls judged taken outcome
  have completes : exec (.rippleWindowComplete pressure) s = .next (s.completeWindow pressure) :=
    congrArg Host.Outcome.next (State.unlessHeld_live live _)
  refine ⟨fun other => ?_, fun full => ?_⟩
  · exact completes.trans (congrArg _ (if_neg fun full => other (Nat.succ_inj.mp full)))
  let sampled := ((m.joined p).rippled s.config.timing ripple).received s.config.timing
  have steady : sampled.Steady target s.config.timing ↔ conditions :=
    Monitor.steady_of_received rfl (joinHistory_ne_nil _ _)
  have outcome_of {u : Monitor} (becomes : sampled.judged target s.config.timing = u) :
      outcome (judged (s.withMonitor u)) := by
    have takes : s.takeSample pressure = judged (s.withMonitor u) := by
      rw [State.takeSample_of_full full]
      exact (congrArg (fun u => (s.withMonitor u).tellRippleIf _) becomes).trans (State.tellRippleIf_eq _ _)
    have valid : s.validSample pressure =
        if m.lost then (judged (s.withMonitor u)).conclude else (judged (s.withMonitor u)).closeTick := by
      rw [State.validSample_eq, takes]
    exact ⟨completes.trans (congrArg _ ((if_pos (congrArg Nat.succ full)).trans valid)),
      (exec_feedback_running live pressure).trans (congrArg _ valid)⟩
  exact ⟨fun holds => outcome_of (Monitor.judged_of_steady (steady.mpr holds)),
    fun fails => outcome_of (Monitor.judged_of_unsteady (mt steady.mp fails))⟩

end

end Sys2Proof.Machine

/-! PROOFS. The flow filter (O47), the flow monitor's windows (O48) and the governors (O44). -/

namespace Sys2Proof.Machine

/-! ## The flow filter (R152, R153) -/

/-- An accepted edge to this level counts (R153). -/
abbrev LaneUnit.CountsEdge (u : LaneUnit) (polarity : Polarity) (level : Level) : Prop :=
  u.gen.running = true ∧
    (polarity = .both ∨ polarity = .rising ∧ level = .high ∨ polarity = .falling ∧ level = .low)

/-- A lane whose filter accepts a level (R152, R153). -/
def LaneUnit.accepting (polarity : Polarity) (level : Level) (u : LaneUnit) : LaneUnit :=
  { u with
    filter := { input := level, accepted := level, timer := none }
    mon := { u.mon with
      edgeCount := if u.CountsEdge polarity level then min 255 (u.mon.edgeCount + 1) else u.mon.edgeCount } }

theorem Polarity.counts_iff (polarity : Polarity) (level : Level) :
    polarity.counts level = true ↔
      polarity = .both ∨ polarity = .rising ∧ level = .high ∨ polarity = .falling ∧ level = .low := by
  cases polarity <;> cases level <;> simp [Polarity.counts]

section
variable (s : State) (L : Lane)

theorem State.acceptEdge_eq :
    s.acceptEdge L = s.modLane L (.accepting s.config.timing.edgePolarity (s.lane L).filter.input) := by
  have counts_iff :
      ((s.lane L).gen.running && s.config.timing.edgePolarity.counts (s.lane L).filter.input) = true ↔
        (s.lane L).CountsEdge s.config.timing.edgePolarity (s.lane L).filter.input := by
    rw [Bool.and_eq_true, Polarity.counts_iff]
  unfold State.acceptEdge
  dsimp only
  by_cases counts : (s.lane L).CountsEdge s.config.timing.edgePolarity (s.lane L).filter.input
  · rw [if_pos (counts_iff.mpr counts), State.modMon, State.modFilter, State.modLane_modLane]
    refine State.modLane_congr ?_
    rw [LaneUnit.accepting, if_pos counts]
  · rw [if_neg (mt counts_iff.mp counts), State.modFilter]
    refine State.modLane_congr ?_
    rw [LaneUnit.accepting, if_neg counts]

/-- The filter's part of an input change is a change of the lane alone (R152). -/
theorem State.filterChange_moved (level : Level) :
    (s.modFilter L fun f => { f with input := level }).filterChange L =
      s.modLane L fun u =>
        if level = (s.lane L).filter.accepted then { u with filter := { u.filter with input := level, timer := none } }
        else if s.config.timing.filterTime = 0 then u.accepting s.config.timing.edgePolarity level
        else { u with filter := { u.filter with input := level, timer := some s.config.timing.filterTime } } := by
  have moved : ((s.modFilter L fun f => { f with input := level }).lane L).filter =
      { (s.lane L).filter with input := level } := by cases L <;> rfl
  have config : (s.modFilter L fun f => { f with input := level }).config = s.config := State.modLane_config ..
  rw [State.filterChange, State.acceptEdge_eq]
  dsimp only
  rw [moved, config]
  by_cases back : level = (s.lane L).filter.accepted
  · simp only [if_pos back]
    exact State.modLane_modLane ..
  simp only [if_neg back]
  by_cases atOnce : s.config.timing.filterTime = 0
  · simp only [if_pos atOnce]
    exact State.modLane_modLane ..
  · simp only [if_neg atOnce]
    exact State.modLane_modLane ..

/-- A change of a filter's input to the level it has changes nothing. -/
theorem State.modFilter_input_same : (s.modFilter L fun f => { f with input := (s.lane L).filter.input }) = s := by
  cases L <;> rfl

end

/-- Settles O47: a change of the input, and the expiry, by the state of the filter. -/
theorem flowFilterFollowsItsInput : Obligations.FlowFilterFollowsItsInput := by
  unfold Obligations.FlowFilterFollowsItsInput
  intro L s timing accepted filter
  have change (level : Level) : exec (.flowInputChange L level) s = .next (s.flowInputChange L level) := rfl
  have expiry (live : s.resetInput = false) := exec_of_timer live (c := .flowFilterExpiry L) rfl rfl
  refine ⟨fun level live moves => ?_, fun level same => ?_, fun level held => ?_, fun live due => ?_,
    fun live early => (expiry live).2 early⟩
  · rw [change, State.flowInputChange, if_neg fun same => moves same.symm,
      State.unlessHeld_live (by cases L <;> exact live), State.filterChange_moved]
    rfl
  · rw [change, State.flowInputChange, if_pos same.symm]
  · have rests : (s.modFilter L fun f => { f with input := level }).unlessHeld (fun t => t.filterChange L) =
        s.modFilter L fun f => { f with input := level } := if_pos (by cases L <;> exact held)
    rw [change, State.flowInputChange, rests]
    by_cases same : filter.input = level
    · rw [if_pos same, ← same]
      exact congrArg _ (s.modFilter_input_same L).symm
    · rw [if_neg same]
      rfl
  · rw [(expiry live).1 due, State.acceptEdge_eq]
    rfl

/-! ## The windows of the flow monitor (R154 to R157) -/

theorem Grace.covers_iff (g : Grace) : g.covers = true ↔ g = .expiring ∨ ∃ n, g = .running n := by
  cases g <;> simp [Grace.covers]

/-- The flow monitor that begins its next window behind one that counted as `bad` and `good` (R154). -/
def FlowMonitor.turned (t : Timing) (bad good : Nat) (m : FlowMonitor) : FlowMonitor :=
  { edgeCount := 0, windowTimer := some t.windowLength, grace := m.grace, badCount := bad, goodCount := good,
    lastWindow := some m.edgeCount }

section
variable {t : Timing} {m : FlowMonitor}

theorem FlowMonitor.endWindow_of_good (good : t.minimumEdgeCount ≤ m.edgeCount) :
    m.endWindow t =
      if m.goodCount + 1 < t.clearCount then m.turned t m.badCount (m.goodCount + 1) else m.turned t 0 t.clearCount := by
  unfold FlowMonitor.endWindow FlowMonitor.countGood
  simp only [decide_eq_true good, if_true]
  split <;> rfl

theorem FlowMonitor.endWindow_of_graced (bad : ¬ t.minimumEdgeCount ≤ m.edgeCount) (graced : m.grace.covers = true) :
    m.endWindow t = m.turned t m.badCount m.goodCount := by
  simp only [FlowMonitor.endWindow, decide_eq_false bad, Bool.false_eq_true, if_false, graced, if_true]
  rfl

theorem FlowMonitor.endWindow_of_bad (bad : ¬ t.minimumEdgeCount ≤ m.edgeCount) (bare : ¬ m.grace.covers = true) :
    m.endWindow t = m.turned t (m.badCount + 1) 0 := by
  simp only [FlowMonitor.endWindow, decide_eq_false bad, Bool.false_eq_true, if_false, bare]
  rfl

theorem FlowMonitor.asserts_iff :
    m.asserts t = true ↔
      ¬ t.minimumEdgeCount ≤ m.edgeCount ∧ ¬ m.grace.covers = true ∧ t.assertCount ≤ m.badCount + 1 := by
  simp [FlowMonitor.asserts, and_assoc]

end

theorem State.windowExpiry_eq (s : State) (L : Lane) :
    s.windowExpiry L =
      if Timer.due (s.lane L).mon.windowTimer then
        if (s.lane L).mon.asserts s.config.timing then
          (s.modMon L fun m => m.endWindow s.config.timing).assertLoss L
        else (s.modMon L fun m => m.endWindow s.config.timing).closeTick
      else s := rfl

/-- Settles O48: a window by its count, the grace and the counts of the spell; the grace by its timer. -/
theorem windowsJudgeTheFlow : Obligations.WindowsJudgeTheFlow := by
  unfold Obligations.WindowsJudgeTheFlow
  intro L s live timing m good grace next outcome lossLane
  have window := exec_of_timer live (c := .windowTimerExpiry L) rfl (s.windowExpiry_eq L)
  have graced : exec (.graceTimerExpiry L) s = .next (s.graceExpiry L) :=
    congrArg Host.Outcome.next (State.unlessHeld_live live _)
  have grace_iff : m.grace.covers = true ↔ grace := m.grace.covers_iff
  have ends {bad goodCount : Nat} (judged : m.endWindow timing = m.turned timing bad goodCount) :
      (s.modMon L fun m => m.endWindow s.config.timing) = next bad goodCount :=
    State.modLane_congr (congrArg (fun m => { s.lane L with mon := m }) judged)
  have closes {bad goodCount : Nat} (due : m.windowTimer = some 0) (calm : ¬ m.asserts timing = true)
      (judged : m.endWindow timing = m.turned timing bad goodCount) : outcome (next bad goodCount).closeTick := by
    have fired := window.1 due
    rw [if_neg calm, ends judged] at fired
    exact fired
  refine ⟨window.2, fun due => ⟨fun isGood below => ?_, fun isGood reached => ?_, fun isBad covered => ?_,
    fun isBad bare below => ?_, fun isBad bare reached => ?_⟩, fun due => ?_, fun early => ?_⟩
  · exact closes due (fun asserts => (FlowMonitor.asserts_iff.mp asserts).1 isGood)
      ((FlowMonitor.endWindow_of_good isGood).trans (if_pos below))
  · exact closes due (fun asserts => (FlowMonitor.asserts_iff.mp asserts).1 isGood)
      ((FlowMonitor.endWindow_of_good isGood).trans (if_neg (Nat.not_lt.mpr reached)))
  · have covered := grace_iff.mpr covered
    exact closes due (fun asserts => (FlowMonitor.asserts_iff.mp asserts).2.1 covered)
      (FlowMonitor.endWindow_of_graced isBad covered)
  · exact closes due (fun asserts => Nat.not_le.mpr below (FlowMonitor.asserts_iff.mp asserts).2.2)
      (FlowMonitor.endWindow_of_bad isBad (mt grace_iff.mp bare))
  · have bare := mt grace_iff.mp bare
    have fired := window.1 due
    rw [if_pos (FlowMonitor.asserts_iff.mpr ⟨isBad, bare, reached⟩),
      ends (FlowMonitor.endWindow_of_bad isBad bare)] at fired
    have lane_eq : (next (m.badCount + 1) 0).lossLane L = lossLane :=
      congrArg (fun mirror => if mirror = true then Lane.A else L) (State.modLane_mirror ..)
    rw [State.assertLoss, lane_eq] at fired
    exact fired
  · rw [graced, State.graceExpiry, if_pos due]
  · rw [graced, State.graceExpiry, if_neg early]

/-! ## The governors (R133 to R142) -/

theorem State.starves_iff (s : State) (L : Lane) (o : Nat) :
    s.starves L o = true ↔
      s.laneState L = .cutting ∧
        ∃ e, (s.lane L).seq.released = .segment e ∧ e.fSeg * o / 1000 < (s.recipe L).feedFloor := by
  unfold State.starves
  split
  case h_1 state released =>
    rw [state, released, decide_eq_true_iff]
    simp [applyFactor]
  case h_2 other =>
    refine ⟨fun h => absurd h Bool.false_ne_true, fun ⟨state, e, released, _⟩ => (other e state released).elim⟩

theorem tellsOverride_iff (step o lastSent : Nat) :
    tellsOverride step o lastSent = true ↔
      step ≤ max o lastSent - min o lastSent ∨ o = 1000 ∧ lastSent ≠ 1000 := by
  rw [tellsOverride, distance, Bool.or_eq_true, decide_eq_true_iff]
  simp

theorem State.modGov_modGov (s : State) (L : Lane) (f g : Governor → Governor) :
    (s.modGov L f).modGov L g = s.modGov L fun x => g (f x) := State.modLane_modLane ..

theorem State.modGov_noticeOverride (s : State) (L : Lane) (f : Governor → Governor) (o : Nat) :
    (s.modGov L f).noticeOverride L o =
      (s.modGov L fun g => { f g with lastSent := o, segmentMin := (f g).segmentMin.map (min o) }).send L.port.link
        kindOverride (beBytes 2 o) := by
  rw [State.noticeOverride, State.modGov_modGov]

theorem State.evaluateLane_of_governed {s : State} {L : Lane}
    (governed : s.laneState L = .cutting ∨ s.laneState L = .openIdle) :
    s.evaluateLane L =
      if (s.lane L).gov.starved then
        if s.starves L (s.override L) then s.modGov L fun g => { g with current := s.override L }
        else (s.modGov L fun g => { g with current := s.override L }).recover L (s.override L)
      else if s.starves L (s.override L) then
        (s.modGov L fun g => { g with current := s.override L }).beginStarving L
      else if tellsOverride s.config.timing.overrideStep (s.override L) (s.lane L).gov.lastSent then
        (s.modGov L fun g => { g with current := s.override L }).noticeOverride L (s.override L)
      else s.modGov L fun g => { g with current := s.override L } := if_pos governed

/-- Settles O44: the branches of an evaluation, each as one change of the governor and its notice. -/
theorem governorsEvaluate : Obligations.GovernorsEvaluate := by
  unfold Obligations.GovernorsEvaluate
  refine ⟨fun s live => congrArg Host.Outcome.next (State.unlessHeld_live live _), ?_⟩
  intro s L r g raw o low becomes notice lowered change tells
  have low_iff : s.starves L o = true ↔ low := s.starves_iff L o
  have tells_iff : tellsOverride s.config.timing.overrideStep o g.lastSent = true ↔ tells := tellsOverride_iff ..
  refine ⟨fun notCutting notIdle => if_neg fun governed => governed.elim notCutting notIdle, fun governed => ?_⟩
  have evaluated := State.evaluateLane_of_governed governed
  have isOverride : s.override L = o := rfl
  rw [isOverride] at evaluated
  have becomes_of {f : Governor → Governor} {current last : Nat} {starved : Bool} {timer : Timer} {lowest : Option Nat}
      (same : f g = ⟨current, last, starved, timer, lowest⟩) :
      s.modGov L f = becomes current last starved timer lowest s :=
    State.modLane_congr (congrArg (fun g => { s.lane L with gov := g }) same)
  clear_value o becomes
  refine ⟨fun starving isLow => ?_, fun starving fed => ?_, fun fine isLow => ?_, fun fine fed told => ?_,
    fun fine fed still => ?_⟩
  · rw [evaluated, if_pos starving, if_pos (low_iff.mpr isLow)]
    exact becomes_of (by rw [← starving])
  · rw [evaluated, if_pos starving, if_neg (mt low_iff.mp fed), State.recover, State.modGov_modGov,
      State.modGov_noticeOverride]
    exact congrArg (notice o) (becomes_of rfl)
  · rw [evaluated, if_neg (Bool.eq_false_iff.mp fine), if_pos (low_iff.mpr isLow), State.beginStarving, State.modGov_modGov,
      State.modGov_noticeOverride]
    exact congrArg
      (fun t => ((notice 0 t).raiseHead L .starving).countLane L .addStarvation)
      (becomes_of (by simp only [State.modGov, State.modLane_config]; rfl))
  · rw [evaluated, if_neg (Bool.eq_false_iff.mp fine), if_neg (mt low_iff.mp fed), if_pos (tells_iff.mpr told),
      State.modGov_noticeOverride]
    exact congrArg (notice o) (becomes_of (by rw [← fine]))
  · rw [evaluated, if_neg (Bool.eq_false_iff.mp fine), if_neg (mt low_iff.mp fed), if_neg (mt tells_iff.mp still)]
    exact becomes_of (by rw [← fine])

end Sys2Proof.Machine

/-! PROOFS. MODE (O50), RESET (O51), and the reset input and power-on (O52). -/

namespace Sys2Proof.Machine

/-! ## MODE (R163, R164) -/

section
variable {s : State}

theorem exec_modeMirrorOn_of_hands {mode : Nat} (h : s.hands .C (.modeMirrorOn mode) = true) :
    exec (.modeMirrorOn mode) s = .next ((s.handed .C).takeMode mode) :=
  congrArg Host.Outcome.next (State.handOn_of_hands h _)

theorem exec_modeMirrorOff_of_hands (h : s.hands .C .modeMirrorOff = true) :
    exec .modeMirrorOff s = .next ((s.handed .C).takeMode 0) :=
  congrArg Host.Outcome.next (State.handOn_of_hands h _)

theorem State.takeMode_on_handed (s : State) :
    (s.handed .C).takeMode 1 =
      if s.laneState .A ≠ .closed ∨ s.laneState .B ≠ .closed ∧ s.laneState .B ≠ .mirrored then
        s.answeredAt .C kindMode .jobActive []
      else if s.mirror then s.answeredAt .C kindMode .ok []
      else (s.answeredAt .C kindMode .ok []).mirrorOn := by
  rw [← State.reply_handed, ← State.refuse_handed]
  rfl

theorem State.takeMode_off_handed (s : State) :
    (s.handed .C).takeMode 0 =
      if s.laneState .A ≠ .closed then s.answeredAt .C kindMode .jobActive []
      else if s.mirror then (s.answeredAt .C kindMode .ok []).mirrorOff
      else s.answeredAt .C kindMode .ok [] := by
  rw [← State.reply_handed, ← State.refuse_handed]
  rfl

theorem State.takeMode_unknown_handed (s : State) {mode : Nat} (off : mode ≠ 0) (on : mode ≠ 1) :
    (s.handed .C).takeMode mode = s.answeredAt .C kindMode .badField [] := by
  rw [← State.refuse_handed]
  match mode with
  | 0 => exact absurd rfl off
  | 1 => exact absurd rfl on
  | n + 2 => rfl

end

/-- A STOP, part by part of the metering unit (R150, R159). -/
theorem LaneUnit.meterStopped_eq (u : LaneUnit) :
    u.meterStopped =
      { u with
        gen := if u.gen.running then .stopped else u.gen
        mon := if u.gen.running then u.mon.stop else u.mon } := by
  unfold LaneUnit.meterStopped
  by_cases running : u.gen.running = true
  · simp only [if_pos running]
  · simp only [if_neg running]

/-- Lane B's unit behind a MODE that parts the lanes (R164). -/
theorem State.mirrorOff_eq (s : State) :
    s.mirrorOff =
      (({ s with mirror := false } : State).modLane .B fun u =>
        { u.meterStopped with seq := .reset }).conclude := by
  rw [State.mirrorOff, State.stopUnit_eq, State.modSeq, State.modLane_modLane]

/-- Settles O50: each mode by the states of the lanes and the mode in force. -/
theorem modeGangsAndParts : Obligations.ModeGangsAndParts := by
  unfold Obligations.ModeGangsAndParts
  refine ⟨fun mode s h off => ?on, fun s h => ?off⟩
  case on =>
    intro allowed replied start outcome
    have taken := exec_modeMirrorOn_of_hands h
    have refused_iff :
        (s.laneState .A ≠ .closed ∨ s.laneState .B ≠ .closed ∧ s.laneState .B ≠ .mirrored) ↔ ¬ allowed := by
      simp only [allowed, not_and_or, not_or, ne_eq]
    refine ⟨fun unknown => ?_, fun on refused => ?_, fun on allows already => ?_, fun on allows parted => ?_⟩
    · exact taken.trans (congrArg _ (s.takeMode_unknown_handed off unknown))
    all_goals
      subst on
      rw [State.takeMode_on_handed] at taken
    · rw [if_pos (refused_iff.mpr refused)] at taken
      exact taken
    · rw [if_neg fun refused => refused_iff.mp refused allows, if_pos already] at taken
      exact taken
    · rw [if_neg fun refused => refused_iff.mp refused allows, if_neg (Bool.eq_false_iff.mp parted)] at taken
      exact taken
  case off =>
    intro replied outcome
    have taken := exec_modeMirrorOff_of_hands h
    rw [State.takeMode_off_handed] at taken
    refine ⟨fun busy => ?_, fun closed parted => ?_, fun closed ganged => ?_⟩
    · rw [if_pos busy] at taken
      exact taken
    · rw [if_neg (not_not.mpr closed), if_neg (Bool.eq_false_iff.mp parted)] at taken
      exact taken
    · rw [if_neg (not_not.mpr closed), if_pos ganged, State.mirrorOff_eq] at taken
      refine taken.trans (congrArg (fun u => Host.Outcome.next
        ({ replied with mirror := false, laneB := u } : State).conclude) ?_)
      exact congrArg (fun u : LaneUnit => { u with seq := Sequencer.reset }) s.laneB.meterStopped_eq

/-! ## RESET (R193) -/

theorem exec_reset_of_hands {s : State} (h : s.hands .C .reset = true) :
    exec .reset s = .next ((s.answeredAt .C kindReset .ok []).restart.closeTick) := by
  have taken : exec .reset s = .next (s.handed .C).takeReset := congrArg Host.Outcome.next (State.handOn_of_hands h _)
  rw [taken, State.takeReset, State.reply_handed]

/-- The state with its lanes as RESET leaves them, and with nothing in the pierce queue (R193). -/
def State.lanesRestarted (s : State) : State :=
  { s with
    laneA := s.laneA.restart (s.queueRegion .A), laneB := s.laneB.restart (s.queueRegion .B)
    arbiter := { s.arbiter with queue := [], holder := none } }

theorem State.restart_eq (s : State) :
    s.restart =
      { (s.lanesRestarted.setTarget 0).resetEvents with mirror := false, timestamp := 0 } := rfl

/-- The target of a part at RESET, and the lock that follows it (R126). -/
theorem State.lanesRestarted_setTarget (s : State) :
    s.lanesRestarted.setTarget 0 =
      { s.lanesRestarted with
        arbiter := { queue := [], holder := none, target := 0 }
        monitor :=
          if s.arbiter.target = 0 then s.monitor else s.monitor.retargeted 0 s.config.timing } := by
  rw [State.setTarget_eq]
  by_cases zero : s.arbiter.target = 0
  · rw [if_pos (show 0 = s.lanesRestarted.arbiter.target from zero.symm), if_pos zero, ← zero]
    rfl
  · rw [if_neg (show ¬ 0 = s.lanesRestarted.arbiter.target from fun same => zero same.symm), if_neg zero]
    rfl

theorem Monitor.retargeted_zero (m : Monitor) (t : Timing) :
    m.retargeted 0 t =
      { m with
        locked := false
        settleTimer :=
          if m.lost = false ∧ m.history ≠ [] ∧ m.ramped = 0 ∧ m.filtered ≤ t.band then some t.settle else none } := by
  simp only [Monitor.retargeted, Monitor.Steady, Nat.max_zero, Nat.min_zero, Nat.sub_zero]

/-- Settles O51: `State.restart_eq` of the state that the reply leaves. -/
theorem resetKeepsAndClears : Obligations.ResetKeepsAndClears := by
  unfold Obligations.ResetKeepsAndClears
  intro s h region unit m replied
  rw [exec_reset_of_hands h, State.restart_eq, State.lanesRestarted_setTarget, Monitor.retargeted_zero]
  rfl

/-! ## The reset input and power-on (R194) -/

/-- While the reset input holds the part at rest, no event but those of the inputs and the start changes it. -/
theorem exec_of_held {s : State} (held : s.resetInput = true) {c : Instr} (start : c ≠ .powerOn)
    (assert : c ≠ .resetInputAssert) (inhibit : c ≠ .inhibitAssert) (release : c ≠ .inhibitRelease)
    (flow : ∀ L level, c ≠ .flowInputChange L level) : exec c s = .next s := by
  cases c with
  | powerOn => exact absurd rfl start
  | resetInputAssert => exact absurd rfl assert
  | inhibitAssert => exact absurd rfl inhibit
  | inhibitRelease => exact absurd rfl release
  | flowInputChange L level => exact absurd rfl (flow L level)
  | _ => exact congrArg Host.Outcome.next (if_pos held)

/-- A part at rest drives nothing: its valves are closed, its attention lines released and its links idle. -/
theorem State.holdAtRest_quiet (s : State) :
    (∀ L, s.holdAtRest.valve L = false) ∧ (∀ p, s.holdAtRest.attention p = false) ∧ ∀ l, s.holdAtRest.tx l = [] := by
  refine ⟨fun L => ?_, fun p => ?_, fun l => ?_⟩
  · cases L <;> rfl
  · have idle : (s.holdAtRest.port p).events.pending = 0#32 := by cases p <;> rfl
    rw [State.attention, idle, BitVec.zero_and]
    rfl
  · cases l <;> rfl

/-- Settles O52: the start values as they stand in the model, and `exec_of_held`. -/
theorem resetInputStartsThePart : Obligations.ResetInputStartsThePart := by
  unfold Obligations.ResetInputStartsThePart
  refine ⟨?_, fun _ _ held => exec_of_held held⟩
  intro s recipe element config lane port started
  have restarts : s.startOver = started false := rfl
  have held : s.holdAtRest = started true := rfl
  have quiet := s.holdAtRest_quiet
  rw [held] at quiet
  exact ⟨congrArg Host.Outcome.next restarts, congrArg Host.Outcome.next held, quiet⟩

end Sys2Proof.Machine

/-! PROOFS. The timebase: the tick, its counting and the expiries it finds (O43). -/

namespace Sys2Proof.Machine

/-! ## The count of a tick (R89, R167) -/

/-- An expiry of the lane that can move a valve is due. -/
abbrev LaneUnit.Expires (u : LaneUnit) : Prop :=
  u.seq.lockTimer = some 0 ∨ u.seq.leadTimer = some 0 ∧ u.seq.state = .piercing .opened ∨
    u.seq.dwellTimer = some 0 ∧ u.seq.state = .piercing .dwell ∨ u.seq.stallTimer = some 0 ∨
    u.seq.purgeTimer = some 0 ∧ u.seq.state = .stopping ∨ u.gov.starvationTimer = some 0 ∨ u.mon.windowTimer = some 0

theorem LaneUnit.expiring_iff (u : LaneUnit) : u.expiring = true ↔ u.Expires := by
  simp only [LaneUnit.expiring, LaneUnit.Expires, Bool.or_eq_true, Bool.and_eq_true, Timer.due_iff, beq_iff_eq, or_assoc]

theorem State.expiring_iff (s : State) :
    s.expiring = true ↔
      s.monitor.lossTimer = some 0 ∧ s.monitor.lost = false ∨ s.monitor.settleTimer = some 0 ∨ s.laneA.Expires ∨
        s.laneB.Expires := by
  simp only [State.expiring, Bool.or_eq_true, Bool.and_eq_true, Timer.due_iff, LaneUnit.expiring_iff, Bool.not_eq_true',
    or_assoc]

/-! ## The tick (R59, R116) -/

section
variable (s : State)

/-- The ramped setpoint behind a tick (R116, R194). -/
def State.rampedNext : Nat :=
  if s.monitor.streaming = false then 0
  else rampToward s.config.timing.rampStep s.arbiter.target s.monitor.ramped

/-- The run flag of a tick's SETPOINT (R116). -/
def State.runFlag : Bool := s.monitor.streaming && decide (0 < s.arbiter.target)

/-- The monitor behind the ramp step of a tick, not yet judged (R116). -/
def State.monitorRamped : Monitor :=
  { s.monitor with ramped := s.rampedNext, lastRun := s.runFlag, streaming := true }

/-- The SETPOINT frame of a tick (R116, R176). -/
def State.setpointFrame : List Byte :=
  wire 0x60#8 (beBytes 2 s.rampedNext ++ [if s.runFlag then 0x01#8 else 0x00#8])

theorem State.rampTick_eq :
    s.rampTick =
      { s with
        monitor := s.monitorRamped.judged s.arbiter.target s.config.timing
        pumpTx := s.pumpTx ++ [s.setpointFrame] } := by
  have ramped : (if s.monitor.streaming then rampToward s.config.timing.rampStep s.arbiter.target s.monitor.ramped
      else 0) = s.rampedNext := by
    unfold State.rampedNext
    cases s.monitor.streaming <;> rfl
  have flag : byte (flagNat s.runFlag) = if s.runFlag then 0x01#8 else 0x00#8 := by
    cases s.runFlag <;> rfl
  unfold State.rampTick
  extract_lets run stepped
  have stepped_eq : stepped = { s with monitor := s.monitorRamped } := by
    unfold State.monitorRamped
    rw [← ramped]
    rfl
  have run_eq : run = s.runFlag := rfl
  rw [State.judgeLock_eq, stepped_eq, run_eq, flag]
  rfl

/-- The part behind a tick whose expiries are taken: everything but TIME_WRAP and the count in VALVE_OPEN_MS. -/
def State.tickedQuiet : State :=
  { s with
    timestamp := if s.timestamp < 65535 then s.timestamp + 1 else 0
    period := (s.period + 1) % 10
    evaluationDue := decide ((s.period + 1) % 10 = 0)
    valveDue := true
    laneA := s.laneA.tick
    laneB := s.laneB.tick
    arbiter := s.tickTimers.arbiter
    monitor := s.tickTimers.monitorRamped.judged s.arbiter.target s.config.timing
    portA := { s.portA with rx := s.portA.rx.tick }
    portB := { s.portB with rx := s.portB.rx.tick }
    portC := { s.portC with rx := s.portC.rx.tick }
    pumpRx := s.pumpRx.tick
    pumpTx := s.pumpTx ++ [s.setpointFrame] }

/-- The part behind a tick whose expiries are taken, not yet counted in VALVE_OPEN_MS. -/
def State.ticked : State :=
  if s.timestamp < 65535 then s.tickedQuiet else s.tickedQuiet.raiseCell .timeWrap

theorem State.tick_eq : s.tick = s.takeDue.countTick.ticked.closeTick := by
  have ticked (d : State) :
      ({ d.tickTimers.tickTimestamp.tickPeriod.rampTick with valveDue := true } : State) = d.ticked := by
    rw [State.rampTick_eq, State.ticked, State.tickedQuiet, State.tickTimestamp]
    by_cases below : d.timestamp < 65535
    · rw [if_pos (show d.tickTimers.timestamp < timestampMax from below), if_pos below, if_pos below]
      rfl
    · rw [if_neg (show ¬ d.tickTimers.timestamp < timestampMax from below), if_neg below, if_neg below]
      rfl
  exact congrArg State.closeTick (ticked _)

theorem State.ticked_timestamp : s.ticked.timestamp = if s.timestamp < 65535 then s.timestamp + 1 else 0 := by
  unfold State.ticked
  split
  case isTrue below => exact if_pos below
  case isFalse wraps => exact if_neg wraps

theorem State.ticked_timeWrap (wraps : ¬ s.timestamp < 65535) : s.ticked.cellPending .timeWrap = true := by
  rw [State.ticked, if_neg wraps]
  change ((s.portC.events.pending ||| bitMask 19).getLsbD 19) = true
  rw [BitVec.getLsbD_or, show (bitMask 19).getLsbD 19 = true by decide, Bool.or_true]

end

/-! ## The expiries of a tick (log entry 2) -/

/-- An event that is a command's whole effect, and that leaves the timestamp and the reset input alone. -/
structure Taken (c : Instr) (event : State → State) : Prop where
  runs : ∀ s : State, exec c s = .next (s.unlessHeld event)
  timestamp : ∀ s : State, (event s).timestamp = s.timestamp
  resetInput : ∀ s : State, (event s).resetInput = s.resetInput

theorem Taken.of_base {c : Instr} {event : State → State} (runs : ∀ s : State, exec c s = .next (s.unlessHeld event))
    (base : ∀ s : State, (event s).base = s.base) : Taken c event :=
  ⟨runs, fun s => State.timestamp_of_base (base s), fun s => congrArg Base.resetInput (base s)⟩

/-- The expiries of each lane, in the order in which they are taken. -/
def laneExpiries : List ((Lane → Instr) × (State → Lane → State)) :=
  [(.lockTimeoutExpiry, State.lockTimeoutExpiry), (.abrasiveLeadExpiry, State.leadExpiry),
    (.dwellExpiry, State.dwellExpiry), (.stallExpiry, State.stallExpiry), (.purgeExpiry, State.purgeExpiry),
    (.starvationTimerExpiry, State.starvationExpiry), (.pierceWaitTimerExpiry, State.pierceWaitExpiry),
    (.slotTimerExpiry, State.slotExpiry), (.flowFilterExpiry, State.filterExpiry),
    (.graceTimerExpiry, State.graceExpiry), (.windowTimerExpiry, State.windowExpiry)]

/-- The expiries that the next tick finds outstanding, each with its event, in the order in which they are taken. -/
def dueExpiries : List (Instr × (State → State)) :=
  [(.gapTimerExpiry .A, fun s => s.gapExpiry .A), (.gapTimerExpiry .B, fun s => s.gapExpiry .B),
      (.gapTimerExpiry .C, fun s => s.gapExpiry .C), (.gapTimerExpiry .pump, fun s => s.gapExpiry .pump),
      (.lossTimerExpiry, State.lossExpiry), (.settleTimerExpiry, State.settleExpiry)] ++
    (laneExpiries.flatMap fun e => [(e.1 .A, fun s => e.2 s .A), (e.1 .B, fun s => e.2 s .B)]) ++
    [(.governorEvaluation, State.evaluation)]

theorem foldl_eachLane (expiries : List ((Lane → Instr) × (State → Lane → State))) (s : State) :
    (expiries.flatMap fun e => [(e.1 .A, fun s => e.2 s .A), (e.1 .B, fun s => e.2 s .B)]).foldl
        (fun t (e : Instr × (State → State)) => e.2 t) s =
      (expiries.map Prod.snd).foldl (fun t expiry => expiry (expiry t .A) .B) s := by
  induction expiries generalizing s with
  | nil => rfl
  | cons e es ih => exact ih _

theorem State.takeDue_eq (s : State) : s.takeDue = dueExpiries.foldl (fun t e => e.2 t) s := by
  rw [dueExpiries, List.foldl_append, List.foldl_append, foldl_eachLane]
  simp only [State.takeDue, laneExpiries, List.map_cons, List.map_nil, List.foldl_cons, List.foldl_nil]

theorem taken_gapExpiry (l : Link) : Taken (.gapTimerExpiry l) fun s => s.gapExpiry l where
  runs _ := rfl
  timestamp s := by
    unfold State.gapExpiry
    split
    · cases l <;> rfl
    · rfl
  resetInput s := by
    unfold State.gapExpiry
    split
    · cases l <;> rfl
    · rfl

theorem taken_evaluation : Taken .governorEvaluation State.evaluation := by
  have base (s : State) :
      ((({ s with evaluationDue := false } : State).evaluateLane .A).evaluateLane .B).closeTick.base =
        ({ s with evaluationDue := false } : State).base := by
    rw [State.closeTick_base, State.evaluateLane_base, State.evaluateLane_base]
  refine ⟨fun _ => rfl, fun s => ?_, fun s => ?_⟩
  all_goals
    unfold State.evaluation
    split
  · exact State.timestamp_of_base (s := { s with evaluationDue := false }) (base s)
  · rfl
  · exact congrArg Base.resetInput (base s)
  · rfl

theorem taken_laneExpiries : ∀ e ∈ laneExpiries, ∀ L, Taken (e.1 L) fun s => e.2 s L := by
  simp only [laneExpiries, List.forall_mem_cons, List.not_mem_nil, false_imp_iff, implies_true, and_true]
  exact ⟨fun L => .of_base (fun _ => rfl) fun s => s.lockTimeoutExpiry_base L,
    fun L => .of_base (fun _ => rfl) fun s => s.leadExpiry_base L,
    fun L => .of_base (fun _ => rfl) fun s => s.dwellExpiry_base L,
    fun L => .of_base (fun _ => rfl) fun s => s.stallExpiry_base L,
    fun L => .of_base (fun _ => rfl) fun s => s.purgeExpiry_base L,
    fun L => .of_base (fun _ => rfl) fun s => s.starvationExpiry_base L,
    fun L => .of_base (fun _ => rfl) fun s => s.pierceWaitExpiry_base L,
    fun L => .of_base (fun _ => rfl) fun s => s.slotExpiry_base L,
    fun L => .of_base (fun _ => rfl) fun s => s.filterExpiry_base L,
    fun L => .of_base (fun _ => rfl) fun s => s.graceExpiry_base L,
    fun L => .of_base (fun _ => rfl) fun s => s.windowExpiry_base L⟩

theorem taken_dueExpiries : ∀ e ∈ dueExpiries, Taken e.1 e.2 := by
  intro e mem
  rw [dueExpiries, List.mem_append, List.mem_append, List.mem_flatMap] at mem
  obtain (links | ⟨each, known, lanes⟩) | last := mem
  · revert e
    simp only [List.forall_mem_cons, List.not_mem_nil, false_imp_iff, implies_true, and_true]
    exact ⟨taken_gapExpiry .A, taken_gapExpiry .B, taken_gapExpiry .C, taken_gapExpiry .pump,
      .of_base (fun _ => rfl) State.lossExpiry_base, .of_base (fun _ => rfl) State.settleExpiry_base⟩
  · have both := taken_laneExpiries each known
    rw [List.mem_pair] at lanes
    obtain rfl | rfl := lanes
    · exact both .A
    · exact both .B
  · obtain rfl := List.mem_singleton.mp last
    exact taken_evaluation

/-- One command behind another, where the other answers a next state. -/
def execNextOf (o : Host.Outcome State Fault Refusal) (c : Instr) : Host.Outcome State Fault Refusal :=
  match o with
  | .next t => exec c t
  | stopped => stopped

section
variable {events : List (Instr × (State → State))} (taken : ∀ e ∈ events, Taken e.1 e.2) (s : State)
include taken

theorem foldl_taken_timestamp : (events.foldl (fun t e => e.2 t) s).timestamp = s.timestamp := by
  induction events generalizing s with
  | nil => rfl
  | cons e es ih =>
    obtain ⟨first, rest⟩ := List.forall_mem_cons.mp taken
    exact (ih rest _).trans (first.timestamp s)

/-- Of a part that is not held at rest the commands of the events take the events. -/
theorem foldl_execNextOf (live : s.resetInput = false) :
    (events.map Prod.fst).foldl execNextOf (.next s) = .next (events.foldl (fun t e => e.2 t) s) := by
  induction events generalizing s with
  | nil => rfl
  | cons e es ih =>
    obtain ⟨first, rest⟩ := List.forall_mem_cons.mp taken
    have fires : execNextOf (.next s) e.1 = .next (e.2 s) :=
      (first.runs s).trans (congrArg _ (State.unlessHeld_live live _))
    rw [List.map_cons, List.foldl_cons, fires, List.foldl_cons]
    exact ih rest _ ((first.resetInput s).trans live)

end

theorem State.takeDue_timestamp (s : State) : s.takeDue.timestamp = s.timestamp := by
  rw [State.takeDue_eq]
  exact foldl_taken_timestamp taken_dueExpiries s

theorem State.countTick_takeDue_timestamp (s : State) : s.takeDue.countTick.timestamp = s.timestamp :=
  (State.timestamp_of_base (State.countTick_base _)).trans s.takeDue_timestamp

theorem State.tickClosed_timestamp (s : State) :
    s.takeDue.countTick.ticked.closeTick.timestamp = if s.timestamp < 65535 then s.timestamp + 1 else 0 := by
  rw [State.timestamp_of_base (State.closeTick_base _), State.ticked_timestamp, State.countTick_takeDue_timestamp]

theorem State.tickClosed_timeWrap (s : State) (wraps : ¬ s.timestamp < 65535) :
    s.takeDue.countTick.ticked.closeTick.cellPending .timeWrap = true := by
  rw [State.cellPending, State.closeTick_portC]
  exact State.ticked_timeWrap _ (by rwa [State.countTick_takeDue_timestamp])

/-- Settles O43: the count of a tick, the tick, and the expiries that it finds. -/
theorem ticksAndWraps : Obligations.TicksAndWraps := by
  unfold Obligations.TicksAndWraps
  refine ⟨fun s => ?counting, fun s live => ?tick, fun s live => ?due⟩
  case counting =>
    intro expires remains valveTick counted
    have remains_iff : s.expiring = true ↔ remains := s.expiring_iff
    refine ⟨rfl, fun done => ⟨?_, ?_⟩, fun open? => ⟨?_, fun left => ?_, fun clear => ?_⟩⟩
    · rw [State.closeTick_eq, if_neg (by simp [done])]
    · rw [State.countTick_eq, if_neg (by simp [done])]
    · exact s.countTick_eq.trans (if_pos open?)
    · exact if_pos (remains_iff.mpr left)
    · exact (if_neg (mt remains_iff.mp clear)).trans (s.countTick_eq.trans (if_pos open?))
  case tick =>
    intro d counts m target step run ramped conditions settle heard lane counted ticked t
    have due_eq : s.takeDue.countTick = d := rfl
    clear_value d
    have quiet : d.tickedQuiet = counted := rfl
    have ticked_eq : d.ticked = ticked := by
      rw [State.ticked, quiet]
    have closed : s.takeDue.countTick.ticked.closeTick = t := by
      rw [due_eq, ticked_eq]
    clear_value t
    have ran : exec .timebaseTick s = .next s.tick := congrArg Host.Outcome.next (State.unlessHeld_live live _)
    have wraps : exec .timestampWrap s = .next s.wrapTick := congrArg Host.Outcome.next (State.unlessHeld_live live _)
    have tick_eq : s.tick = t := s.tick_eq.trans closed
    refine ⟨ran.trans (congrArg _ tick_eq), fun top => ⟨?_, ?_, ?_⟩, fun other => ?_⟩
    · exact wraps.trans (congrArg _ ((if_pos top).trans tick_eq))
    · rw [← closed, s.tickClosed_timestamp, if_neg (by omega)]
    · rw [← closed]
      exact s.tickClosed_timeWrap (by omega)
    · exact wraps.trans (congrArg _ (if_neg other))
  case due =>
    intro each outstanding
    have listed : outstanding = dueExpiries.map Prod.fst := rfl
    have runs := foldl_execNextOf taken_dueExpiries s live
    rw [listed, State.takeDue_eq]
    exact runs

end Sys2Proof.Machine
